-- ==== Sys2Proof/Word.lean ====
section
/-! DEFINITION. The widths of the machine's data (00_scope.md R18): an 8-bit byte and a 16-bit word. -/

namespace Sys2Proof

/-- A memory byte, an 8-bit register, an instruction byte (00_scope.md R18). -/
abbrev Byte := BitVec 8

/-- A 16-bit register, address or data word (00_scope.md R18). -/
abbrev Word := BitVec 16

end Sys2Proof
end

