-- ==== Sys2Proof/Config.lean ====
section
/-! DEFINITION. What the spec leaves open: the free values, opaque so that no proof can see them, and the one byte an
unlisted memory address reads as (DESIGN CHOICE, log 1). -/

namespace Sys2Proof.Config

/-- The byte that an address of memory which nothing has written reads as.  70_reset_and_hazards.md R902 gives memory
no content after reset.  DESIGN CHOICE, unsafe, log 1. -/
def unlistedByte : Byte := 0x00#8

/-- The n-th unspecified 16-bit value (92_eei_decisions.md D6, D12, D24): nothing constrains it.  Log 9. -/
opaque freeWord : Nat → BitVec 16

/-- The n-th unspecified 8-bit value, also the source of the unspecified condition-code bits (92_eei_decisions.md D12).
Log 9. -/
opaque freeByte : Nat → BitVec 8

/-- What an unimplemented address reads as: the value where the memory map is silent (92_eei_decisions.md D10).  The
first argument is the free-value counter of the reading state, the second the physical address.  Also the bits that a
device register changes by itself.  Logs 13, 47. -/
opaque openBus : Nat → Nat → BitVec 8

/-- What a byte of RAM that does not keep its content holds after a reset: any value (70_reset_and_hazards.md R902,
93_implementation_defined.md U23).  The first argument is the free-value counter, the second the physical address.
Log 49. -/
opaque lostByte : Nat → Nat → BitVec 8

end Sys2Proof.Config
end

