-- ==== Sys2Proof/Machine/Bits.lean ====
section
/-! DEFINITION. Byte order, sign extension and the bit fields the machine uses (20_memory.md R62, R63). -/

namespace Sys2Proof.Machine

/-- The high byte of a word, the one at the lower address (20_memory.md R63). -/
def hiByte (w : Word) : Byte := w.extractLsb' 8 8

/-- The low byte of a word, the one at the higher address (20_memory.md R63). -/
def loByte (w : Word) : Byte := w.extractLsb' 0 8

/-- The word of two bytes, high byte first (20_memory.md R63). -/
def wordOf (hi lo : Byte) : Word := hi ++ lo

/-- `sext_16` of a byte (00_scope.md R13). -/
def sext8 (b : Byte) : Word := b.signExtend 16

/-- `zext_16` of a byte (00_scope.md R13). -/
def zext8 (b : Byte) : Word := b.zeroExtend 16

/-- The high word of a 32-bit value, the one at the lower address (20_memory.md R63). -/
def hiWord (v : BitVec 32) : Word := v.extractLsb' 16 16

/-- The low word of a 32-bit value (20_memory.md R63). -/
def loWord (v : BitVec 32) : Word := v.extractLsb' 0 16

/-- The 32-bit value of two words, high word first, written high:low (00_scope.md R8). -/
def longOf (hi lo : Word) : BitVec 32 := hi ++ lo

/-- Every bit equal to the sign bit of the word: `sexD` of 41_transfer_exchange.md R304. -/
def signWord (w : Word) : Word := if w.msb then 0xFFFF#16 else 0x0000#16

end Sys2Proof.Machine
end

