-- ==== Sys2Proof/Syntax.lean ====
section
/-! DEFINITION. The instruction set as data: operand forms (30_encoding.md R102, 31_indexed_postbyte.md R141) and one
constructor of `Instr` per mnemonic of opcode_table.json. -/

namespace Sys2Proof

/-- The base register of an indexed operand (31_indexed_postbyte.md R140). -/
inductive IdxReg where
  | x | y | sp | pc
  deriving DecidableEq, Repr

/-- The base register of an auto-modify operand: the program counter is not a valid choice (R141). -/
inductive AutoReg where
  | x | y | sp
  deriving DecidableEq, Repr

/-- The accumulator of an accumulator-offset operand (R149). -/
inductive AccReg where
  | a | b | d
  deriving DecidableEq, Repr

/-- The seven classes of the indexed postbyte, with their extension bytes (31_indexed_postbyte.md R141). -/
inductive Idx where
  /-- `rr0nnnnn`: 5-bit signed offset (R143). -/
  | off5 (r : IdxReg) (n : BitVec 5)
  /-- `rr1pnnnn`: auto pre- or post-modify by the adjustment coded in `n` (R147). -/
  | auto (r : AutoReg) (post : Bool) (n : BitVec 4)
  /-- `111rr00s ff`: 9-bit signed offset (R144). -/
  | off9 (r : IdxReg) (n : BitVec 9)
  /-- `111rr010 ee ff`: 16-bit offset (R145). -/
  | off16 (r : IdxReg) (n : Word)
  /-- `111rr011 ee ff`: 16-bit offset, indexed-indirect (R146). -/
  | ind16 (r : IdxReg) (n : Word)
  /-- `111rr1aa`: accumulator offset (R149). -/
  | acc (r : IdxReg) (via : AccReg)
  /-- `111rr111`: accumulator D offset, indexed-indirect (R151). -/
  | indD (r : IdxReg)
  deriving DecidableEq, Repr

/-- A memory operand: direct, extended or indexed (30_encoding.md R102). -/
inductive Ea where
  | dir (dd : Byte)
  | ext (addr : Word)
  | idx (i : Idx)
  deriving DecidableEq, Repr

/-- A memory operand of an instruction without a direct form: extended or indexed. -/
inductive Xea where
  | ext (addr : Word)
  | idx (i : Idx)
  deriving DecidableEq, Repr

/-- An 8-bit source: immediate or memory (30_encoding.md R103). -/
inductive Src8 where
  | imm (v : Byte)
  | mem (ea : Ea)
  deriving DecidableEq, Repr

/-- A 16-bit source: immediate or memory (30_encoding.md R103). -/
inductive Src16 where
  | imm (v : Word)
  | mem (ea : Ea)
  deriving DecidableEq, Repr

/-- The source of MOVB (40_load_store_move.md R228). -/
inductive MoveSrc8 where
  | imm (v : Byte)
  | mem (ea : Xea)
  deriving DecidableEq, Repr

/-- The source of MOVW (40_load_store_move.md R228). -/
inductive MoveSrc16 where
  | imm (v : Word)
  | mem (ea : Xea)
  deriving DecidableEq, Repr

/-- The target of CALL: a 16-bit address with its page, or a pointer to both (47_branch_loop_jump.md R752). -/
inductive CallTarget where
  | ext (addr : Word) (page : Byte)
  | idx (i : Idx) (page : Byte)
  | ind (i : Idx)
  deriving DecidableEq, Repr

/-- The eight register codes of the eb postbyte (41_transfer_exchange.md R301, R304); what a code names depends on the
side, on bit 3 and on the other code. -/
inductive RegCode where
  | a | b | ccr | tmp | d | x | y | sp
  deriving DecidableEq, Repr

/-- The 8-bit sources of SEX (41_transfer_exchange.md R306). -/
inductive SexSrc where
  | a | b | ccr
  deriving DecidableEq, Repr

/-- The 16-bit destinations of SEX from an 8-bit source (R306). -/
inductive SexDst where
  | tmp2 | d | x | y | sp
  deriving DecidableEq, Repr

/-- The operand pairs of SEX (R306): an 8-bit source into a 16-bit register, the two extended codes of A or B into D,
and D into X or Y. -/
inductive SexOp where
  | byte (src : SexSrc) (dst : SexDst)
  | aToD
  | bToD
  | dToX
  | dToY
  deriving DecidableEq, Repr

/-- The counter register of a loop primitive (47_branch_loop_jump.md R741). -/
inductive Ctr where
  | a | b | d | x | y | sp
  deriving DecidableEq, Repr

/-- The instructions: one constructor per mnemonic of opcode_table.json, those with
operands first (the runtime numbers only so many of them). -/
inductive Instr where
  /-- `LDAA` (40_load_store_move.md R201). -/
  | ldaa (src : Src8)
  /-- `LDAB` (40_load_store_move.md R202). -/
  | ldab (src : Src8)
  /-- `LDD` (40_load_store_move.md R203). -/
  | ldd (src : Src16)
  /-- `LDS` (40_load_store_move.md R204). -/
  | lds (src : Src16)
  /-- `LDX` (40_load_store_move.md R205). -/
  | ldx (src : Src16)
  /-- `LDY` (40_load_store_move.md R206). -/
  | ldy (src : Src16)
  /-- `STAA` (40_load_store_move.md R208). -/
  | staa (ea : Ea)
  /-- `STAB` (40_load_store_move.md R209). -/
  | stab (ea : Ea)
  /-- `STD` (40_load_store_move.md R210). -/
  | std (ea : Ea)
  /-- `STS` (40_load_store_move.md R211). -/
  | sts (ea : Ea)
  /-- `STX` (40_load_store_move.md R212). -/
  | stx (ea : Ea)
  /-- `STY` (40_load_store_move.md R213). -/
  | sty (ea : Ea)
  /-- `LEAS` (40_load_store_move.md R214). -/
  | leas (idx : Idx)
  /-- `LEAX` (40_load_store_move.md R215). -/
  | leax (idx : Idx)
  /-- `LEAY` (40_load_store_move.md R216). -/
  | leay (idx : Idx)
  /-- `GLDAA` (40_load_store_move.md R222). -/
  | gldaa (ea : Ea)
  /-- `GLDAB` (40_load_store_move.md R223). -/
  | gldab (ea : Ea)
  /-- `GLDD` (40_load_store_move.md R224). -/
  | gldd (ea : Ea)
  /-- `GLDS` (40_load_store_move.md R225). -/
  | glds (ea : Ea)
  /-- `GLDX` (40_load_store_move.md R226). -/
  | gldx (ea : Ea)
  /-- `GLDY` (40_load_store_move.md R227). -/
  | gldy (ea : Ea)
  /-- `GSTAA` (40_load_store_move.md R231). -/
  | gstaa (ea : Ea)
  /-- `GSTAB` (40_load_store_move.md R232). -/
  | gstab (ea : Ea)
  /-- `GSTD` (40_load_store_move.md R233). -/
  | gstd (ea : Ea)
  /-- `GSTS` (40_load_store_move.md R234). -/
  | gsts (ea : Ea)
  /-- `GSTX` (40_load_store_move.md R235). -/
  | gstx (ea : Ea)
  /-- `GSTY` (40_load_store_move.md R236). -/
  | gsty (ea : Ea)
  /-- `ADCA` (42_add_sub_compare.md R355). -/
  | adca (src : Src8)
  /-- `ADCB` (42_add_sub_compare.md R356). -/
  | adcb (src : Src8)
  /-- `ADDA` (42_add_sub_compare.md R357). -/
  | adda (src : Src8)
  /-- `ADDB` (42_add_sub_compare.md R358). -/
  | addb (src : Src8)
  /-- `ADDD` (42_add_sub_compare.md R359). -/
  | addd (src : Src16)
  /-- `ADDX` (42_add_sub_compare.md R360). -/
  | addx (src : Src16)
  /-- `ADDY` (42_add_sub_compare.md R361). -/
  | addy (src : Src16)
  /-- `ADED` (42_add_sub_compare.md R362). -/
  | aded (src : Src16)
  /-- `ADEX` (42_add_sub_compare.md R363). -/
  | adex (src : Src16)
  /-- `ADEY` (42_add_sub_compare.md R364). -/
  | adey (src : Src16)
  /-- `SBCA` (42_add_sub_compare.md R366). -/
  | sbca (src : Src8)
  /-- `SBCB` (42_add_sub_compare.md R367). -/
  | sbcb (src : Src8)
  /-- `SUBA` (42_add_sub_compare.md R368). -/
  | suba (src : Src8)
  /-- `SUBB` (42_add_sub_compare.md R369). -/
  | subb (src : Src8)
  /-- `SUBD` (42_add_sub_compare.md R370). -/
  | subd (src : Src16)
  /-- `SUBX` (42_add_sub_compare.md R371). -/
  | subx (src : Src16)
  /-- `SUBY` (42_add_sub_compare.md R372). -/
  | suby (src : Src16)
  /-- `SBED` (42_add_sub_compare.md R373). -/
  | sbed (src : Src16)
  /-- `SBEX` (42_add_sub_compare.md R374). -/
  | sbex (src : Src16)
  /-- `SBEY` (42_add_sub_compare.md R375). -/
  | sbey (src : Src16)
  /-- `CMPA` (42_add_sub_compare.md R378). -/
  | cmpa (src : Src8)
  /-- `CMPB` (42_add_sub_compare.md R379). -/
  | cmpb (src : Src8)
  /-- `CPD` (42_add_sub_compare.md R380). -/
  | cpd (src : Src16)
  /-- `CPS` (42_add_sub_compare.md R381). -/
  | cps (src : Src16)
  /-- `CPX` (42_add_sub_compare.md R382). -/
  | cpx (src : Src16)
  /-- `CPY` (42_add_sub_compare.md R383). -/
  | cpy (src : Src16)
  /-- `CPED` (42_add_sub_compare.md R384). -/
  | cped (src : Src16)
  /-- `CPES` (42_add_sub_compare.md R385). -/
  | cpes (src : Src16)
  /-- `CPEX` (42_add_sub_compare.md R386). -/
  | cpex (src : Src16)
  /-- `CPEY` (42_add_sub_compare.md R388). -/
  | cpey (src : Src16)
  /-- `ANDA` (43_logic_bit.md R451). -/
  | anda (src : Src8)
  /-- `ANDB` (43_logic_bit.md R452). -/
  | andb (src : Src8)
  /-- `ANDX` (43_logic_bit.md R453). -/
  | andx (src : Src16)
  /-- `ANDY` (43_logic_bit.md R454). -/
  | andy (src : Src16)
  /-- `BITA` (43_logic_bit.md R455). -/
  | bita (src : Src8)
  /-- `BITB` (43_logic_bit.md R456). -/
  | bitb (src : Src8)
  /-- `BITX` (43_logic_bit.md R457). -/
  | bitx (src : Src16)
  /-- `BITY` (43_logic_bit.md R458). -/
  | bity (src : Src16)
  /-- `EORA` (43_logic_bit.md R459). -/
  | eora (src : Src8)
  /-- `EORB` (43_logic_bit.md R460). -/
  | eorb (src : Src8)
  /-- `EORX` (43_logic_bit.md R461). -/
  | eorx (src : Src16)
  /-- `EORY` (43_logic_bit.md R462). -/
  | eory (src : Src16)
  /-- `ORAA` (43_logic_bit.md R463). -/
  | oraa (src : Src8)
  /-- `ORAB` (43_logic_bit.md R464). -/
  | orab (src : Src8)
  /-- `ORX` (43_logic_bit.md R465). -/
  | orx (src : Src16)
  /-- `ORY` (43_logic_bit.md R466). -/
  | ory (src : Src16)
  /-- `BCLR` (43_logic_bit.md R468). -/
  | bclr (ea : Ea) (mask : Byte)
  /-- `BSET` (43_logic_bit.md R469). -/
  | bset (ea : Ea) (mask : Byte)
  /-- `BTAS` (43_logic_bit.md R470). -/
  | btas (ea : Ea) (mask : Byte)
  /-- `CLR` (44_inc_dec_clr_com_neg_tst.md R521). -/
  | clr (ea : Xea)
  /-- `CLRW` (44_inc_dec_clr_com_neg_tst.md R524). -/
  | clrw (ea : Xea)
  /-- `COM` (44_inc_dec_clr_com_neg_tst.md R528). -/
  | com (ea : Xea)
  /-- `COMW` (44_inc_dec_clr_com_neg_tst.md R531). -/
  | comw (ea : Xea)
  /-- `NEG` (44_inc_dec_clr_com_neg_tst.md R535). -/
  | neg (ea : Xea)
  /-- `NEGW` (44_inc_dec_clr_com_neg_tst.md R538). -/
  | negw (ea : Xea)
  /-- `DEC` (44_inc_dec_clr_com_neg_tst.md R542). -/
  | dec (ea : Xea)
  /-- `DECW` (44_inc_dec_clr_com_neg_tst.md R545). -/
  | decw (ea : Xea)
  /-- `INC` (44_inc_dec_clr_com_neg_tst.md R552). -/
  | inc (ea : Xea)
  /-- `INCW` (44_inc_dec_clr_com_neg_tst.md R555). -/
  | incw (ea : Xea)
  /-- `TST` (44_inc_dec_clr_com_neg_tst.md R561). -/
  | tst (ea : Xea)
  /-- `TSTW` (44_inc_dec_clr_com_neg_tst.md R564). -/
  | tstw (ea : Xea)
  /-- `ASL` (45_shift_rotate.md R603). -/
  | asl (ea : Xea)
  /-- `ASLW` (45_shift_rotate.md R607). -/
  | aslw (ea : Xea)
  /-- `LSL` (45_shift_rotate.md R610), the assembler's second name of ASL (R111). -/
  | lsl (ea : Xea)
  /-- `LSLW` (45_shift_rotate.md R614), the assembler's second name of ASLW (R111). -/
  | lslw (ea : Xea)
  /-- `ASR` (45_shift_rotate.md R617). -/
  | asr (ea : Xea)
  /-- `ASRW` (45_shift_rotate.md R620). -/
  | asrw (ea : Xea)
  /-- `LSR` (45_shift_rotate.md R623). -/
  | lsr (ea : Xea)
  /-- `LSRW` (45_shift_rotate.md R627). -/
  | lsrw (ea : Xea)
  /-- `ROL` (45_shift_rotate.md R630). -/
  | rol (ea : Xea)
  /-- `ROLW` (45_shift_rotate.md R633). -/
  | rolw (ea : Xea)
  /-- `ROR` (45_shift_rotate.md R636). -/
  | ror (ea : Xea)
  /-- `RORW` (45_shift_rotate.md R639). -/
  | rorw (ea : Xea)
  /-- `EMACS` (46_mul_div_minmax_table.md R653). -/
  | emacs (addr : Word)
  /-- `MAXA` (46_mul_div_minmax_table.md R661). -/
  | maxa (idx : Idx)
  /-- `MAXM` (46_mul_div_minmax_table.md R662). -/
  | maxm (idx : Idx)
  /-- `MINA` (46_mul_div_minmax_table.md R663). -/
  | mina (idx : Idx)
  /-- `MINM` (46_mul_div_minmax_table.md R664). -/
  | minm (idx : Idx)
  /-- `EMAXD` (46_mul_div_minmax_table.md R665). -/
  | emaxd (idx : Idx)
  /-- `EMAXM` (46_mul_div_minmax_table.md R666). -/
  | emaxm (idx : Idx)
  /-- `EMIND` (46_mul_div_minmax_table.md R667). -/
  | emind (idx : Idx)
  /-- `EMINM` (46_mul_div_minmax_table.md R668). -/
  | eminm (idx : Idx)
  /-- `TBL` (46_mul_div_minmax_table.md R670). -/
  | tbl (idx : Idx)
  /-- `ETBL` (46_mul_div_minmax_table.md R671). -/
  | etbl (idx : Idx)
  /-- `BCC` (47_branch_loop_jump.md R703). -/
  | bcc (rel : Byte)
  /-- `BCS` (47_branch_loop_jump.md R704). -/
  | bcs (rel : Byte)
  /-- `BEQ` (47_branch_loop_jump.md R705). -/
  | beq (rel : Byte)
  /-- `BGE` (47_branch_loop_jump.md R706). -/
  | bge (rel : Byte)
  /-- `BGT` (47_branch_loop_jump.md R707). -/
  | bgt (rel : Byte)
  /-- `BHI` (47_branch_loop_jump.md R708). -/
  | bhi (rel : Byte)
  /-- `BHS` (47_branch_loop_jump.md R709), the assembler's second name of BCC (R111). -/
  | bhs (rel : Byte)
  /-- `BLE` (47_branch_loop_jump.md R710). -/
  | ble (rel : Byte)
  /-- `BLO` (47_branch_loop_jump.md R711), the assembler's second name of BCS (R111). -/
  | blo (rel : Byte)
  /-- `BLS` (47_branch_loop_jump.md R712). -/
  | bls (rel : Byte)
  /-- `BLT` (47_branch_loop_jump.md R713). -/
  | blt (rel : Byte)
  /-- `BMI` (47_branch_loop_jump.md R714). -/
  | bmi (rel : Byte)
  /-- `BNE` (47_branch_loop_jump.md R715). -/
  | bne (rel : Byte)
  /-- `BPL` (47_branch_loop_jump.md R716). -/
  | bpl (rel : Byte)
  /-- `BRA` (47_branch_loop_jump.md R717). -/
  | bra (rel : Byte)
  /-- `BRN` (47_branch_loop_jump.md R718). -/
  | brn (rel : Byte)
  /-- `BVC` (47_branch_loop_jump.md R719). -/
  | bvc (rel : Byte)
  /-- `BVS` (47_branch_loop_jump.md R720). -/
  | bvs (rel : Byte)
  /-- `LBCC` (47_branch_loop_jump.md R721). -/
  | lbcc (rel : Word)
  /-- `LBCS` (47_branch_loop_jump.md R722). -/
  | lbcs (rel : Word)
  /-- `LBEQ` (47_branch_loop_jump.md R723). -/
  | lbeq (rel : Word)
  /-- `LBGE` (47_branch_loop_jump.md R724). -/
  | lbge (rel : Word)
  /-- `LBGT` (47_branch_loop_jump.md R725). -/
  | lbgt (rel : Word)
  /-- `LBHI` (47_branch_loop_jump.md R726). -/
  | lbhi (rel : Word)
  /-- `LBHS` (47_branch_loop_jump.md R727), the assembler's second name of LBCC (R111). -/
  | lbhs (rel : Word)
  /-- `LBLE` (47_branch_loop_jump.md R728). -/
  | lble (rel : Word)
  /-- `LBLO` (47_branch_loop_jump.md R729), the assembler's second name of LBCS (R111). -/
  | lblo (rel : Word)
  /-- `LBLS` (47_branch_loop_jump.md R730). -/
  | lbls (rel : Word)
  /-- `LBLT` (47_branch_loop_jump.md R731). -/
  | lblt (rel : Word)
  /-- `LBMI` (47_branch_loop_jump.md R732). -/
  | lbmi (rel : Word)
  /-- `LBNE` (47_branch_loop_jump.md R733). -/
  | lbne (rel : Word)
  /-- `LBPL` (47_branch_loop_jump.md R734). -/
  | lbpl (rel : Word)
  /-- `LBRA` (47_branch_loop_jump.md R735). -/
  | lbra (rel : Word)
  /-- `LBRN` (47_branch_loop_jump.md R736). -/
  | lbrn (rel : Word)
  /-- `LBVC` (47_branch_loop_jump.md R737). -/
  | lbvc (rel : Word)
  /-- `LBVS` (47_branch_loop_jump.md R738). -/
  | lbvs (rel : Word)
  /-- `BRCLR` (47_branch_loop_jump.md R739). -/
  | brclr (ea : Ea) (mask : Byte) (rel : Byte)
  /-- `BRSET` (47_branch_loop_jump.md R740). -/
  | brset (ea : Ea) (mask : Byte) (rel : Byte)
  /-- `DBEQ` (47_branch_loop_jump.md R742). -/
  | dbeq (ctr : Ctr) (rel : BitVec 9)
  /-- `DBNE` (47_branch_loop_jump.md R743). -/
  | dbne (ctr : Ctr) (rel : BitVec 9)
  /-- `IBEQ` (47_branch_loop_jump.md R744). -/
  | ibeq (ctr : Ctr) (rel : BitVec 9)
  /-- `IBNE` (47_branch_loop_jump.md R746). -/
  | ibne (ctr : Ctr) (rel : BitVec 9)
  /-- `TBEQ` (47_branch_loop_jump.md R747). -/
  | tbeq (ctr : Ctr) (rel : BitVec 9)
  /-- `TBNE` (47_branch_loop_jump.md R748). -/
  | tbne (ctr : Ctr) (rel : BitVec 9)
  /-- `JMP` (47_branch_loop_jump.md R749). -/
  | jmp (target : Xea)
  /-- `JSR` (47_branch_loop_jump.md R750). -/
  | jsr (target : Ea)
  /-- `BSR` (47_branch_loop_jump.md R751). -/
  | bsr (rel : Byte)
  /-- `CALL` (47_branch_loop_jump.md R752). -/
  | call (target : CallTarget)
  /-- `ANDCC` (48_stack_ccr_system.md R775). -/
  | andcc (mask : Byte)
  /-- `ORCC` (48_stack_ccr_system.md R776). -/
  | orcc (mask : Byte)
  /-- `TFR` (41_transfer_exchange.md R305). -/
  | tfr (extended : Bool) (src : RegCode) (dst : RegCode)
  /-- `SEX` (41_transfer_exchange.md R306), the assembler's second name of TFR (R111). -/
  | sex (op : SexOp)
  /-- `EXG` (41_transfer_exchange.md R309). -/
  | exg (extended : Bool) (src : RegCode) (dst : RegCode)
  /-- `MOVB` (40_load_store_move.md R237). -/
  | movb (src : MoveSrc8) (dst : Xea)
  /-- `MOVW` (40_load_store_move.md R238). -/
  | movw (src : MoveSrc16) (dst : Xea)
  /-- `TRAP` (48_stack_ccr_system.md R786). -/
  | trap (tn : Byte)
  /-- `ABX` (40_load_store_move.md R217), the assembler's second name of LEAX (R111). -/
  | abx
  /-- `ABY` (40_load_store_move.md R218), the assembler's second name of LEAY (R111). -/
  | aby
  /-- `DES` (40_load_store_move.md R219), the assembler's second name of LEAS (R111). -/
  | des
  /-- `INS` (40_load_store_move.md R220), the assembler's second name of LEAS (R111). -/
  | ins
  /-- `ABA` (42_add_sub_compare.md R354). -/
  | aba
  /-- `SBA` (42_add_sub_compare.md R365). -/
  | sba
  /-- `CBA` (42_add_sub_compare.md R377). -/
  | cba
  /-- `DAA` (42_add_sub_compare.md R387). -/
  | daa
  /-- `CLRA` (44_inc_dec_clr_com_neg_tst.md R522). -/
  | clra
  /-- `CLRB` (44_inc_dec_clr_com_neg_tst.md R523). -/
  | clrb
  /-- `CLRX` (44_inc_dec_clr_com_neg_tst.md R525). -/
  | clrx
  /-- `CLRY` (44_inc_dec_clr_com_neg_tst.md R526). -/
  | clry
  /-- `COMA` (44_inc_dec_clr_com_neg_tst.md R529). -/
  | coma
  /-- `COMB` (44_inc_dec_clr_com_neg_tst.md R530). -/
  | comb
  /-- `COMX` (44_inc_dec_clr_com_neg_tst.md R532). -/
  | comx
  /-- `COMY` (44_inc_dec_clr_com_neg_tst.md R533). -/
  | comy
  /-- `NEGA` (44_inc_dec_clr_com_neg_tst.md R536). -/
  | nega
  /-- `NEGB` (44_inc_dec_clr_com_neg_tst.md R537). -/
  | negb
  /-- `NEGX` (44_inc_dec_clr_com_neg_tst.md R539). -/
  | negx
  /-- `NEGY` (44_inc_dec_clr_com_neg_tst.md R540). -/
  | negy
  /-- `DECA` (44_inc_dec_clr_com_neg_tst.md R543). -/
  | deca
  /-- `DECB` (44_inc_dec_clr_com_neg_tst.md R544). -/
  | decb
  /-- `DECX` (44_inc_dec_clr_com_neg_tst.md R546). -/
  | decx
  /-- `DECY` (44_inc_dec_clr_com_neg_tst.md R547). -/
  | decy
  /-- `DEX` (44_inc_dec_clr_com_neg_tst.md R549). -/
  | dex
  /-- `DEY` (44_inc_dec_clr_com_neg_tst.md R550). -/
  | dey
  /-- `INCA` (44_inc_dec_clr_com_neg_tst.md R553). -/
  | inca
  /-- `INCB` (44_inc_dec_clr_com_neg_tst.md R554). -/
  | incb
  /-- `INCX` (44_inc_dec_clr_com_neg_tst.md R556). -/
  | incx
  /-- `INCY` (44_inc_dec_clr_com_neg_tst.md R557). -/
  | incy
  /-- `INX` (44_inc_dec_clr_com_neg_tst.md R558). -/
  | inx
  /-- `INY` (44_inc_dec_clr_com_neg_tst.md R559). -/
  | iny
  /-- `TSTA` (44_inc_dec_clr_com_neg_tst.md R562). -/
  | tsta
  /-- `TSTB` (44_inc_dec_clr_com_neg_tst.md R563). -/
  | tstb
  /-- `TSTX` (44_inc_dec_clr_com_neg_tst.md R565). -/
  | tstx
  /-- `TSTY` (44_inc_dec_clr_com_neg_tst.md R566). -/
  | tsty
  /-- `ASLA` (45_shift_rotate.md R604). -/
  | asla
  /-- `ASLB` (45_shift_rotate.md R605). -/
  | aslb
  /-- `ASLD` (45_shift_rotate.md R606). -/
  | asld
  /-- `ASLX` (45_shift_rotate.md R608). -/
  | aslx
  /-- `ASLY` (45_shift_rotate.md R609). -/
  | asly
  /-- `LSLA` (45_shift_rotate.md R611), the assembler's second name of ASLA (R111). -/
  | lsla
  /-- `LSLB` (45_shift_rotate.md R612), the assembler's second name of ASLB (R111). -/
  | lslb
  /-- `LSLD` (45_shift_rotate.md R613), the assembler's second name of ASLD (R111). -/
  | lsld
  /-- `LSLX` (45_shift_rotate.md R615), the assembler's second name of ASLX (R111). -/
  | lslx
  /-- `LSLY` (45_shift_rotate.md R616), the assembler's second name of ASLY (R111). -/
  | lsly
  /-- `ASRA` (45_shift_rotate.md R618). -/
  | asra
  /-- `ASRB` (45_shift_rotate.md R619). -/
  | asrb
  /-- `ASRX` (45_shift_rotate.md R621). -/
  | asrx
  /-- `ASRY` (45_shift_rotate.md R622). -/
  | asry
  /-- `LSRA` (45_shift_rotate.md R624). -/
  | lsra
  /-- `LSRB` (45_shift_rotate.md R625). -/
  | lsrb
  /-- `LSRD` (45_shift_rotate.md R626). -/
  | lsrd
  /-- `LSRX` (45_shift_rotate.md R628). -/
  | lsrx
  /-- `LSRY` (45_shift_rotate.md R629). -/
  | lsry
  /-- `ROLA` (45_shift_rotate.md R631). -/
  | rola
  /-- `ROLB` (45_shift_rotate.md R632). -/
  | rolb
  /-- `ROLX` (45_shift_rotate.md R634). -/
  | rolx
  /-- `ROLY` (45_shift_rotate.md R635). -/
  | roly
  /-- `RORA` (45_shift_rotate.md R637). -/
  | rora
  /-- `RORB` (45_shift_rotate.md R638). -/
  | rorb
  /-- `RORX` (45_shift_rotate.md R640). -/
  | rorx
  /-- `RORY` (45_shift_rotate.md R641). -/
  | rory
  /-- `MUL` (46_mul_div_minmax_table.md R650). -/
  | mul
  /-- `EMUL` (46_mul_div_minmax_table.md R651). -/
  | emul
  /-- `EMULS` (46_mul_div_minmax_table.md R652). -/
  | emuls
  /-- `EDIV` (46_mul_div_minmax_table.md R655). -/
  | ediv
  /-- `EDIVS` (46_mul_div_minmax_table.md R656). -/
  | edivs
  /-- `IDIV` (46_mul_div_minmax_table.md R657). -/
  | idiv
  /-- `IDIVS` (46_mul_div_minmax_table.md R658). -/
  | idivs
  /-- `FDIV` (46_mul_div_minmax_table.md R659). -/
  | fdiv
  /-- `RTC` (47_branch_loop_jump.md R753). -/
  | rtc
  /-- `RTS` (47_branch_loop_jump.md R754). -/
  | rts
  /-- `PSHA` (48_stack_ccr_system.md R761). -/
  | psha
  /-- `PSHB` (48_stack_ccr_system.md R762). -/
  | pshb
  /-- `PSHC` (48_stack_ccr_system.md R763). -/
  | pshc
  /-- `PSHCW` (48_stack_ccr_system.md R764). -/
  | pshcw
  /-- `PSHD` (48_stack_ccr_system.md R765). -/
  | pshd
  /-- `PSHX` (48_stack_ccr_system.md R766). -/
  | pshx
  /-- `PSHY` (48_stack_ccr_system.md R767). -/
  | pshy
  /-- `PULA` (48_stack_ccr_system.md R768). -/
  | pula
  /-- `PULB` (48_stack_ccr_system.md R769). -/
  | pulb
  /-- `PULC` (48_stack_ccr_system.md R770). -/
  | pulc
  /-- `PULCW` (48_stack_ccr_system.md R771). -/
  | pulcw
  /-- `PULD` (48_stack_ccr_system.md R772). -/
  | puld
  /-- `PULX` (48_stack_ccr_system.md R773). -/
  | pulx
  /-- `PULY` (48_stack_ccr_system.md R774). -/
  | puly
  /-- `CLC` (48_stack_ccr_system.md R777), the assembler's second name of ANDCC (R111). -/
  | clc
  /-- `CLI` (48_stack_ccr_system.md R778), the assembler's second name of ANDCC (R111). -/
  | cli
  /-- `CLV` (48_stack_ccr_system.md R779), the assembler's second name of ANDCC (R111). -/
  | clv
  /-- `SEC` (48_stack_ccr_system.md R780), the assembler's second name of ORCC (R111). -/
  | sec
  /-- `SEI` (48_stack_ccr_system.md R781), the assembler's second name of ORCC (R111). -/
  | sei
  /-- `SEV` (48_stack_ccr_system.md R782), the assembler's second name of ORCC (R111). -/
  | sev
  /-- `NOP` (48_stack_ccr_system.md R783). -/
  | nop
  /-- `BGND` (48_stack_ccr_system.md R784). -/
  | bgnd
  /-- `SWI` (48_stack_ccr_system.md R785). -/
  | swi
  /-- `RTI` (48_stack_ccr_system.md R787). -/
  | rti
  /-- `STOP` (48_stack_ccr_system.md R788). -/
  | stop
  /-- `WAI` (48_stack_ccr_system.md R789). -/
  | wai
  /-- `MEM` (49_fuzzy.md R1001). -/
  | mem
  /-- `REV` (49_fuzzy.md R1003). -/
  | rev
  /-- `REVW` (49_fuzzy.md R1004). -/
  | revw
  /-- `WAV` (49_fuzzy.md R1007). -/
  | wav
  /-- `TAB` (41_transfer_exchange.md R310). -/
  | tab
  /-- `TBA` (41_transfer_exchange.md R311). -/
  | tba
  /-- `TAP` (41_transfer_exchange.md R312), the assembler's second name of TFR (R111). -/
  | tap
  /-- `TPA` (41_transfer_exchange.md R313), the assembler's second name of TFR (R111). -/
  | tpa
  /-- `TSX` (41_transfer_exchange.md R314), the assembler's second name of TFR (R111). -/
  | tsx
  /-- `TSY` (41_transfer_exchange.md R315), the assembler's second name of TFR (R111). -/
  | tsy
  /-- `TXS` (41_transfer_exchange.md R316), the assembler's second name of TFR (R111). -/
  | txs
  /-- `TYS` (41_transfer_exchange.md R317), the assembler's second name of TFR (R111). -/
  | tys
  /-- `XGDX` (41_transfer_exchange.md R318), the assembler's second name of EXG (R111). -/
  | xgdx
  /-- `XGDY` (41_transfer_exchange.md R319), the assembler's second name of EXG (R111). -/
  | xgdy
  /-- `wavr` (49_fuzzy.md R1006). -/
  | wavr
  deriving DecidableEq, Repr

end Sys2Proof
end

