-- ==== Sys2Proof/WellFormed.lean ====
section
/-! DEFINITION. The checks on operands that an instruction's encoding cannot express: the indexed forms that the spec
leaves out of an instruction's list (31_indexed_postbyte.md R160) and the 29 unimplemented opcodes (30_encoding.md R107). -/

namespace Sys2Proof

/-- The operand is one of IDX, IDX1, IDX2: no pointer is read (31_indexed_postbyte.md R160). -/
def Idx.isDirect : Idx → Bool
  | .off5 _ _ | .auto _ _ _ | .off9 _ _ | .off16 _ _ | .acc _ _ => true
  | .ind16 _ _ | .indD _ => false

/-- The operand is of class IDX: no extension byte and no pointer (31_indexed_postbyte.md R160, TBL and ETBL). -/
def Idx.noExtension : Idx → Bool
  | .off5 _ _ | .auto _ _ _ | .acc _ _ => true
  | .off9 _ _ | .off16 _ _ | .ind16 _ _ | .indD _ => false

/-- A bit instruction takes direct, extended or a non-indirect indexed operand (R160). -/
def Ea.isDirect : Ea → Bool
  | .dir _ | .ext _ => true
  | .idx i => i.isDirect

/-- CALL's paged form takes a non-indirect operand, its pointer form an indirect one (47_branch_loop_jump.md R752). -/
def CallTarget.wf : CallTarget → Bool
  | .ext _ _ => true
  | .idx i _ => i.isDirect
  | .ind i => !i.isDirect

/-- The second bytes of the 29 unimplemented page-2 opcodes (30_encoding.md R107). -/
def trapCodes : List Byte :=
  [0x30, 0x31, 0x32, 0x33, 0x34, 0x49, 0x4A, 0x4B, 0x4C, 0x4D, 0x4E, 0x4F, 0x59, 0x81, 0x91,
   0xA1, 0xB1, 0xC1, 0xD1, 0xE1, 0xF1, 0x86, 0xC6, 0xA7, 0xB7, 0xCC, 0xCD, 0xCE, 0xCF]

/-- `18 tn` is unimplemented (30_encoding.md R107). -/
def isTrapCode (tn : Byte) : Bool := trapCodes.contains tn

/-- The instruction is one the encoding can express and the spec gives a meaning. -/
def Instr.wf : Instr → Bool
  | .ldaa _ => true
  | .ldab _ => true
  | .ldd _ => true
  | .lds _ => true
  | .ldx _ => true
  | .ldy _ => true
  | .staa _ => true
  | .stab _ => true
  | .std _ => true
  | .sts _ => true
  | .stx _ => true
  | .sty _ => true
  | .leas i => i.isDirect
  | .leax i => i.isDirect
  | .leay i => i.isDirect
  | .abx => true
  | .aby => true
  | .des => true
  | .ins => true
  | .gldaa _ => true
  | .gldab _ => true
  | .gldd _ => true
  | .glds _ => true
  | .gldx _ => true
  | .gldy _ => true
  | .gstaa _ => true
  | .gstab _ => true
  | .gstd _ => true
  | .gsts _ => true
  | .gstx _ => true
  | .gsty _ => true
  | .aba => true
  | .adca _ => true
  | .adcb _ => true
  | .adda _ => true
  | .addb _ => true
  | .addd _ => true
  | .addx _ => true
  | .addy _ => true
  | .aded _ => true
  | .adex _ => true
  | .adey _ => true
  | .sba => true
  | .sbca _ => true
  | .sbcb _ => true
  | .suba _ => true
  | .subb _ => true
  | .subd _ => true
  | .subx _ => true
  | .suby _ => true
  | .sbed _ => true
  | .sbex _ => true
  | .sbey _ => true
  | .cba => true
  | .cmpa _ => true
  | .cmpb _ => true
  | .cpd _ => true
  | .cps _ => true
  | .cpx _ => true
  | .cpy _ => true
  | .cped _ => true
  | .cpes _ => true
  | .cpex _ => true
  | .cpey _ => true
  | .daa => true
  | .anda _ => true
  | .andb _ => true
  | .andx _ => true
  | .andy _ => true
  | .bita _ => true
  | .bitb _ => true
  | .bitx _ => true
  | .bity _ => true
  | .eora _ => true
  | .eorb _ => true
  | .eorx _ => true
  | .eory _ => true
  | .oraa _ => true
  | .orab _ => true
  | .orx _ => true
  | .ory _ => true
  | .bclr ea _ => ea.isDirect
  | .bset ea _ => ea.isDirect
  | .btas ea _ => ea.isDirect
  | .clr _ => true
  | .clra => true
  | .clrb => true
  | .clrw _ => true
  | .clrx => true
  | .clry => true
  | .com _ => true
  | .coma => true
  | .comb => true
  | .comw _ => true
  | .comx => true
  | .comy => true
  | .neg _ => true
  | .nega => true
  | .negb => true
  | .negw _ => true
  | .negx => true
  | .negy => true
  | .dec _ => true
  | .deca => true
  | .decb => true
  | .decw _ => true
  | .decx => true
  | .decy => true
  | .dex => true
  | .dey => true
  | .inc _ => true
  | .inca => true
  | .incb => true
  | .incw _ => true
  | .incx => true
  | .incy => true
  | .inx => true
  | .iny => true
  | .tst _ => true
  | .tsta => true
  | .tstb => true
  | .tstw _ => true
  | .tstx => true
  | .tsty => true
  | .asl _ => true
  | .asla => true
  | .aslb => true
  | .asld => true
  | .aslw _ => true
  | .aslx => true
  | .asly => true
  | .lsl _ => true
  | .lsla => true
  | .lslb => true
  | .lsld => true
  | .lslw _ => true
  | .lslx => true
  | .lsly => true
  | .asr _ => true
  | .asra => true
  | .asrb => true
  | .asrw _ => true
  | .asrx => true
  | .asry => true
  | .lsr _ => true
  | .lsra => true
  | .lsrb => true
  | .lsrd => true
  | .lsrw _ => true
  | .lsrx => true
  | .lsry => true
  | .rol _ => true
  | .rola => true
  | .rolb => true
  | .rolw _ => true
  | .rolx => true
  | .roly => true
  | .ror _ => true
  | .rora => true
  | .rorb => true
  | .rorw _ => true
  | .rorx => true
  | .rory => true
  | .mul => true
  | .emul => true
  | .emuls => true
  | .emacs _ => true
  | .ediv => true
  | .edivs => true
  | .idiv => true
  | .idivs => true
  | .fdiv => true
  | .maxa _ => true
  | .maxm _ => true
  | .mina _ => true
  | .minm _ => true
  | .emaxd _ => true
  | .emaxm _ => true
  | .emind _ => true
  | .eminm _ => true
  | .tbl i => i.noExtension
  | .etbl i => i.noExtension
  | .bcc _ => true
  | .bcs _ => true
  | .beq _ => true
  | .bge _ => true
  | .bgt _ => true
  | .bhi _ => true
  | .bhs _ => true
  | .ble _ => true
  | .blo _ => true
  | .bls _ => true
  | .blt _ => true
  | .bmi _ => true
  | .bne _ => true
  | .bpl _ => true
  | .bra _ => true
  | .brn _ => true
  | .bvc _ => true
  | .bvs _ => true
  | .lbcc _ => true
  | .lbcs _ => true
  | .lbeq _ => true
  | .lbge _ => true
  | .lbgt _ => true
  | .lbhi _ => true
  | .lbhs _ => true
  | .lble _ => true
  | .lblo _ => true
  | .lbls _ => true
  | .lblt _ => true
  | .lbmi _ => true
  | .lbne _ => true
  | .lbpl _ => true
  | .lbra _ => true
  | .lbrn _ => true
  | .lbvc _ => true
  | .lbvs _ => true
  | .brclr ea _ _ => ea.isDirect
  | .brset ea _ _ => ea.isDirect
  | .dbeq _ _ => true
  | .dbne _ _ => true
  | .ibeq _ _ => true
  | .ibne _ _ => true
  | .tbeq _ _ => true
  | .tbne _ _ => true
  | .jmp _ => true
  | .jsr _ => true
  | .bsr _ => true
  | .call t => t.wf
  | .rtc => true
  | .rts => true
  | .psha => true
  | .pshb => true
  | .pshc => true
  | .pshcw => true
  | .pshd => true
  | .pshx => true
  | .pshy => true
  | .pula => true
  | .pulb => true
  | .pulc => true
  | .pulcw => true
  | .puld => true
  | .pulx => true
  | .puly => true
  | .andcc _ => true
  | .orcc _ => true
  | .clc => true
  | .cli => true
  | .clv => true
  | .sec => true
  | .sei => true
  | .sev => true
  | .nop => true
  | .bgnd => true
  | .swi => true
  | .rti => true
  | .stop => true
  | .wai => true
  | .mem => true
  | .rev => true
  | .revw => true
  | .wav => true
  | .tfr _ _ _ => true
  | .sex _ => true
  | .exg _ _ _ => true
  | .tab => true
  | .tba => true
  | .tap => true
  | .tpa => true
  | .tsx => true
  | .tsy => true
  | .txs => true
  | .tys => true
  | .xgdx => true
  | .xgdy => true
  | .movb _ _ => true
  | .movw _ _ => true
  | .trap tn => isTrapCode tn
  | .wavr => true

end Sys2Proof
end

