-- ==== Sys2Proof/Decode.lean ====
section
/-! DEFINITION. Decoding, total on any bytes, and after it the encoder (30_encoding.md R100 to R112,
31_indexed_postbyte.md R140 to R163). -/

namespace Sys2Proof

open Sys2Proof.Machine

/-- Why bytes are no instruction of the spec. -/
inductive DecodeError where
  /-- The bytes end inside the instruction (a machine step never meets this: it gives eight bytes). -/
  | truncated
  /-- An indexed postbyte the spec leaves out of the instruction's list (31_indexed_postbyte.md R160). -/
  | reservedPostbyte
  /-- A loop-primitive postbyte with no row in the source's table (47_branch_loop_jump.md R745). -/
  | reservedLoopCode
  deriving DecidableEq, Repr

/-- A reader of operand bytes: an answer with the bytes left over, or why there is none. -/
abbrev Parser (α : Type) := List Byte → Except DecodeError (α × List Byte)

/-- Answer without reading. -/
def answer {α : Type} (a : α) : Parser α := fun bs => .ok (a, bs)

/-- Reject the bytes. -/
def reject {α : Type} (e : DecodeError) : Parser α := fun _ => .error e

/-- Read with the first reader, then with what it gives. -/
def andThen {α β : Type} (p : Parser α) (f : α → Parser β) : Parser β := fun bs =>
  match p bs with
  | .ok (a, rest) => f a rest
  | .error e => .error e

/-- One byte. -/
def byte : Parser Byte
  | [] => .error .truncated
  | b :: rest => .ok (b, rest)

/-- A 16-bit field, high byte first (20_memory.md R63). -/
def word : Parser Word := andThen byte fun hi => andThen byte fun lo => answer (wordOf hi lo)

/-- The base register of field rr (31_indexed_postbyte.md R140). -/
def IdxReg.ofBits (rr : BitVec 2) : IdxReg :=
  match rr.toNat with
  | 0 => .x
  | 1 => .y
  | 2 => .sp
  | _ => .pc

/-- The field rr of a base register (R140). -/
def IdxReg.bits : IdxReg → BitVec 2
  | .x => 0
  | .y => 1
  | .sp => 2
  | .pc => 3

/-- The base register of an auto-modify postbyte, whose rr is never %11 (R141). -/
def AutoReg.ofBits (rr : BitVec 2) : AutoReg :=
  match rr.toNat with
  | 0 => .x
  | 1 => .y
  | _ => .sp

/-- The field rr of an auto-modify base register (R141). -/
def AutoReg.bits : AutoReg → BitVec 2
  | .x => 0
  | .y => 1
  | .sp => 2

/-- The field aa of an accumulator (R149). -/
def AccReg.bits : AccReg → BitVec 2
  | .a => 0
  | .b => 1
  | .d => 2

/-- The operand of a postbyte with b7:b5 ≠ %111: 5-bit offset or auto modify (31_indexed_postbyte.md R141). -/
def lowPostbyte (xb : Byte) : Idx :=
  if xb.getLsbD 5 then .auto (.ofBits (xb.extractLsb' 6 2)) (xb.getLsbD 4) (xb.extractLsb' 0 4)
  else .off5 (.ofBits (xb.extractLsb' 6 2)) (xb.extractLsb' 0 5)

/-- The operand of a postbyte with b7:b5 = %111, its extension bytes read (31_indexed_postbyte.md R141). -/
def highPostbyte (xb : Byte) : Parser Idx :=
  let r := IdxReg.ofBits (xb.extractLsb' 3 2)
  match (xb.extractLsb' 0 3).toNat with
  | 0 => andThen byte fun ff => answer (.off9 r (0#1 ++ ff))
  | 1 => andThen byte fun ff => answer (.off9 r (1#1 ++ ff))
  | 2 => andThen word fun n => answer (.off16 r n)
  | 3 => andThen word fun n => answer (.ind16 r n)
  | 4 => answer (.acc r .a)
  | 5 => answer (.acc r .b)
  | 6 => answer (.acc r .d)
  | _ => answer (.indD r)

/-- The indexed operand: postbyte and extension bytes (31_indexed_postbyte.md R141, R162). -/
def indexed : Parser Idx := andThen byte fun xb =>
  if xb.extractLsb' 5 3 = 7#3 then highPostbyte xb else answer (lowPostbyte xb)

/-- An instruction with one byte operand (30_encoding.md R102: IMM8, DIR, REL8, page-1 masks). -/
def pByte (f : Byte → Instr) : Parser Instr := andThen byte fun b => answer (f b)

/-- Read one byte and go on with it. -/
def withByte (f : Byte → Parser Instr) : Parser Instr := andThen byte f

/-- An instruction with one 16-bit operand (30_encoding.md R102: EXT, REL16). -/
def pExt (f : Word → Instr) : Parser Instr := andThen word fun w => answer (f w)

/-- An instruction with any indexed operand (30_encoding.md R102). -/
def anyIdx (f : Idx → Instr) : Parser Instr := andThen indexed fun i => answer (f i)

/-- An instruction whose indexed operand is IDX, IDX1 or IDX2; another postbyte is outside specified behaviour
(31_indexed_postbyte.md R160, 92 D4). -/
def directIdx (f : Idx → Instr) : Parser Instr := andThen indexed fun i =>
  if i.isDirect then answer (f i) else reject .reservedPostbyte

/-- An instruction whose indexed operand is IDX only (31_indexed_postbyte.md R160, 92 D4). -/
def shortIdx (f : Idx → Instr) : Parser Instr := andThen indexed fun i =>
  if i.noExtension then answer (f i) else reject .reservedPostbyte

/-- 8-bit immediate source (30_encoding.md R103). -/
def src8Imm (f : Src8 → Instr) : Parser Instr := andThen byte fun b => answer (f (.imm b))
/-- Direct 8-bit source. -/
def src8Dir (f : Src8 → Instr) : Parser Instr := andThen byte fun b => answer (f (.mem (.dir b)))
/-- Extended 8-bit source. -/
def src8Ext (f : Src8 → Instr) : Parser Instr := andThen word fun w => answer (f (.mem (.ext w)))
/-- Indexed 8-bit source. -/
def src8Idx (f : Src8 → Instr) : Parser Instr := andThen indexed fun i => answer (f (.mem (.idx i)))

/-- 16-bit immediate source (30_encoding.md R103). -/
def src16Imm (f : Src16 → Instr) : Parser Instr := andThen word fun w => answer (f (.imm w))
/-- Direct 16-bit source. -/
def src16Dir (f : Src16 → Instr) : Parser Instr := andThen byte fun b => answer (f (.mem (.dir b)))
/-- Extended 16-bit source. -/
def src16Ext (f : Src16 → Instr) : Parser Instr := andThen word fun w => answer (f (.mem (.ext w)))
/-- Indexed 16-bit source. -/
def src16Idx (f : Src16 → Instr) : Parser Instr := andThen indexed fun i => answer (f (.mem (.idx i)))

/-- Direct memory operand. -/
def eaDir (f : Ea → Instr) : Parser Instr := andThen byte fun b => answer (f (.dir b))
/-- Extended memory operand. -/
def eaExt (f : Ea → Instr) : Parser Instr := andThen word fun w => answer (f (.ext w))
/-- Indexed memory operand. -/
def eaIdx (f : Ea → Instr) : Parser Instr := andThen indexed fun i => answer (f (.idx i))

/-- Extended memory operand of an instruction without a direct form. -/
def xeaExt (f : Xea → Instr) : Parser Instr := andThen word fun w => answer (f (.ext w))
/-- Indexed memory operand of an instruction without a direct form. -/
def xeaIdx (f : Xea → Instr) : Parser Instr := andThen indexed fun i => answer (f (.idx i))

/-- `dd mm` (30_encoding.md R102, DIR-M). -/
def bitDir (f : Ea → Byte → Instr) : Parser Instr :=
  andThen byte fun dd => andThen byte fun mm => answer (f (.dir dd) mm)
/-- `hh ll mm` (EXT-M). -/
def bitExt (f : Ea → Byte → Instr) : Parser Instr :=
  andThen word fun w => andThen byte fun mm => answer (f (.ext w) mm)
/-- `xb [ff | ee ff] mm` (IDX-M), non-indirect (R160). -/
def bitIdx (f : Ea → Byte → Instr) : Parser Instr :=
  andThen indexed fun i => andThen byte fun mm =>
    if i.isDirect then answer (f (.idx i) mm) else reject .reservedPostbyte

/-- `dd mm rr` (DIR-M-R). -/
def bitRelDir (f : Ea → Byte → Byte → Instr) : Parser Instr :=
  andThen byte fun dd => andThen byte fun mm => andThen byte fun rr => answer (f (.dir dd) mm rr)
/-- `hh ll mm rr` (EXT-M-R). -/
def bitRelExt (f : Ea → Byte → Byte → Instr) : Parser Instr :=
  andThen word fun w => andThen byte fun mm => andThen byte fun rr => answer (f (.ext w) mm rr)
/-- `xb [ff | ee ff] mm rr` (IDX-M-R), non-indirect (R160). -/
def bitRelIdx (f : Ea → Byte → Byte → Instr) : Parser Instr :=
  andThen indexed fun i => andThen byte fun mm => andThen byte fun rr =>
    if i.isDirect then answer (f (.idx i) mm rr) else reject .reservedPostbyte

/-- The counter register of a loop postbyte; codes %010 and %011 are not defined (47_branch_loop_jump.md R741, R745). -/
def Ctr.ofBits (code : BitVec 3) : Option Ctr :=
  match code.toNat with
  | 0 => some .a
  | 1 => some .b
  | 4 => some .d
  | 5 => some .x
  | 6 => some .y
  | 7 => some .sp
  | _ => none

/-- The code of a counter register (R741). -/
def Ctr.bits : Ctr → BitVec 3
  | .a => 0
  | .b => 1
  | .d => 4
  | .x => 5
  | .y => 6
  | .sp => 7

/-- The loop primitive of operation field lb[7:5]; %11x is not defined (R741, R745). -/
def loopOperation (op : BitVec 3) (c : Ctr) (rel : BitVec 9) : Option Instr :=
  match op.toNat with
  | 0 => some (.dbeq c rel)
  | 1 => some (.dbne c rel)
  | 2 => some (.tbeq c rel)
  | 3 => some (.tbne c rel)
  | 4 => some (.ibeq c rel)
  | 5 => some (.ibne c rel)
  | _ => none

/-- `04 lb rr` (47_branch_loop_jump.md R741); bit 3 of lb is not used, log 27. -/
def loopPrimitive : Parser Instr :=
  andThen byte fun lb => andThen byte fun rr =>
    match Ctr.ofBits (lb.extractLsb' 0 3) with
    | none => reject .reservedLoopCode
    | some c =>
      match loopOperation (lb.extractLsb' 5 3) c (lb.extractLsb' 4 1 ++ rr) with
      | none => reject .reservedLoopCode
      | some i => answer i

/-- The register of a code of the eb postbyte (41_transfer_exchange.md R301, R304). -/
def RegCode.ofBits (code : BitVec 3) : RegCode :=
  match code.toNat with
  | 0 => .a
  | 1 => .b
  | 2 => .ccr
  | 3 => .tmp
  | 4 => .d
  | 5 => .x
  | 6 => .y
  | _ => .sp

/-- The code of a register in the eb postbyte (R301). -/
def RegCode.bits : RegCode → BitVec 3
  | .a => 0
  | .b => 1
  | .ccr => 2
  | .tmp => 3
  | .d => 4
  | .x => 5
  | .y => 6
  | .sp => 7

/-- `B7 eb`: bit 7 selects exchange, bit 3 the extended set (41_transfer_exchange.md R300). -/
def registerPair : Parser Instr := andThen byte fun eb =>
  let src := RegCode.ofBits (eb.extractLsb' 4 3)
  let dst := RegCode.ofBits (eb.extractLsb' 0 3)
  answer (if eb.getLsbD 7 then .exg (eb.getLsbD 3) src dst else .tfr (eb.getLsbD 3) src dst)

/-- `4A hh ll pg` (47_branch_loop_jump.md R752). -/
def callExt : Parser Instr := andThen word fun w => andThen byte fun pg => answer (.call (.ext w pg))

/-- `4B xb ...`: the indirect postbytes carry no page byte (R752). -/
def callIdx : Parser Instr := andThen indexed fun i =>
  if i.isDirect then andThen byte fun pg => answer (.call (.idx i pg)) else answer (.call (.ind i))

/-- `ii hh ll` (40_load_store_move.md R228). -/
def move8ImmExt : Parser Instr := andThen byte fun v => andThen word fun w => answer (.movb (.imm v) (.ext w))
/-- `xbD ... ii`: the destination first (R228). -/
def move8ImmIdx : Parser Instr := andThen indexed fun d => andThen byte fun v => answer (.movb (.imm v) (.idx d))
/-- `jj kk hh ll` (R228). -/
def move16ImmExt : Parser Instr := andThen word fun v => andThen word fun w => answer (.movw (.imm v) (.ext w))
/-- `xbD ... jj kk`: the destination first (R228). -/
def move16ImmIdx : Parser Instr := andThen indexed fun d => andThen word fun v => answer (.movw (.imm v) (.idx d))
/-- `hhS llS hhD llD` (R228). -/
def moveExtExt (f : Xea → Xea → Instr) : Parser Instr :=
  andThen word fun s => andThen word fun d => answer (f (.ext s) (.ext d))
/-- `xbD ... hhS llS`: the destination first (R228). -/
def moveExtIdx (f : Xea → Xea → Instr) : Parser Instr :=
  andThen indexed fun d => andThen word fun s => answer (f (.ext s) (.idx d))
/-- `xbS ... hhD llD` (R228). -/
def moveIdxExt (f : Xea → Xea → Instr) : Parser Instr :=
  andThen indexed fun s => andThen word fun d => answer (f (.idx s) (.ext d))
/-- `xbS ... xbD ...` (R228). -/
def moveIdxIdx (f : Xea → Xea → Instr) : Parser Instr :=
  andThen indexed fun s => andThen indexed fun d => answer (f (.idx s) (.idx d))

/-- The entry of a 16 by 16 opcode map (30_encoding.md R105). -/
def lookup (rows : List (List (Parser Instr))) (op : Byte) : Parser Instr :=
  (rows.getD (op.toNat / 16) []).getD (op.toNat % 16) (reject .truncated)

/-- Opcodes $00 to $0F of page 2 (30_encoding.md R106). -/
def page2Row0 : List (Parser Instr) :=
  [
   move16ImmIdx, (moveExtIdx fun s d => .movw (.mem s) d), (moveIdxIdx fun s d => .movw (.mem s) d), move16ImmExt,
   (moveExtExt fun s d => .movw (.mem s) d), (moveIdxExt fun s d => .movw (.mem s) d), (answer .aba), (answer .daa),
   move8ImmIdx, (moveExtIdx fun s d => .movb (.mem s) d), (moveIdxIdx fun s d => .movb (.mem s) d), move8ImmExt,
   (moveExtExt fun s d => .movb (.mem s) d), (moveIdxExt fun s d => .movb (.mem s) d), (answer .tab), (answer .tba)]

/-- Opcodes $10 to $1F of page 2 (30_encoding.md R106). -/
def page2Row1 : List (Parser Instr) :=
  [
   (answer .idiv), (answer .fdiv), (pExt .emacs), (answer .emuls),
   (answer .edivs), (answer .idivs), (answer .sba), (answer .cba),
   (anyIdx .maxa), (anyIdx .mina), (anyIdx .emaxd), (anyIdx .emind),
   (anyIdx .maxm), (anyIdx .minm), (anyIdx .emaxm), (anyIdx .eminm)]

/-- Opcodes $20 to $2F of page 2 (30_encoding.md R106). -/
def page2Row2 : List (Parser Instr) :=
  [
   (pExt .lbra), (pExt .lbrn), (pExt .lbhi), (pExt .lbls),
   (pExt .lbcc), (pExt .lbcs), (pExt .lbne), (pExt .lbeq),
   (pExt .lbvc), (pExt .lbvs), (pExt .lbpl), (pExt .lbmi),
   (pExt .lbge), (pExt .lblt), (pExt .lbgt), (pExt .lble)]

/-- Opcodes $30 to $3F of page 2 (30_encoding.md R106). -/
def page2Row3 : List (Parser Instr) :=
  [
   (answer (.trap 0x30)), (answer (.trap 0x31)), (answer (.trap 0x32)), (answer (.trap 0x33)),
   (answer (.trap 0x34)), (bitDir .btas), (bitExt .btas), (bitIdx .btas),
   (answer .pulcw), (answer .pshcw), (answer .rev), (answer .revw),
   (answer .wav), (shortIdx .tbl), (answer .stop), (shortIdx .etbl)]

/-- Opcodes $40 to $4F of page 2 (30_encoding.md R106). -/
def page2Row4 : List (Parser Instr) :=
  [
   (answer .negx), (answer .comx), (answer .incx), (answer .decx),
   (answer .lsrx), (answer .rolx), (answer .rorx), (answer .asrx),
   (answer .aslx), (answer (.trap 0x49)), (answer (.trap 0x4A)), (answer (.trap 0x4B)),
   (answer (.trap 0x4C)), (answer (.trap 0x4D)), (answer (.trap 0x4E)), (answer (.trap 0x4F))]

/-- Opcodes $50 to $5F of page 2 (30_encoding.md R106). -/
def page2Row5 : List (Parser Instr) :=
  [
   (answer .negy), (answer .comy), (answer .incy), (answer .decy),
   (answer .lsry), (answer .roly), (answer .rory), (answer .asry),
   (answer .asly), (answer (.trap 0x59)), (eaDir .gstaa), (eaDir .gstab),
   (eaDir .gstd), (eaDir .gsty), (eaDir .gstx), (eaDir .gsts)]

/-- Opcodes $60 to $6F of page 2 (30_encoding.md R106). -/
def page2Row6 : List (Parser Instr) :=
  [
   (xeaIdx .negw), (xeaIdx .comw), (xeaIdx .incw), (xeaIdx .decw),
   (xeaIdx .lsrw), (xeaIdx .rolw), (xeaIdx .rorw), (xeaIdx .asrw),
   (xeaIdx .aslw), (xeaIdx .clrw), (eaIdx .gstaa), (eaIdx .gstab),
   (eaIdx .gstd), (eaIdx .gsty), (eaIdx .gstx), (eaIdx .gsts)]

/-- Opcodes $70 to $7F of page 2 (30_encoding.md R106). -/
def page2Row7 : List (Parser Instr) :=
  [
   (xeaExt .negw), (xeaExt .comw), (xeaExt .incw), (xeaExt .decw),
   (xeaExt .lsrw), (xeaExt .rolw), (xeaExt .rorw), (xeaExt .asrw),
   (xeaExt .aslw), (xeaExt .clrw), (eaExt .gstaa), (eaExt .gstab),
   (eaExt .gstd), (eaExt .gsty), (eaExt .gstx), (eaExt .gsts)]

/-- Opcodes $80 to $8F of page 2 (30_encoding.md R106). -/
def page2Row8 : List (Parser Instr) :=
  [
   (src16Imm .subx), (answer (.trap 0x81)), (src16Imm .sbex), (src16Imm .sbed),
   (src16Imm .andx), (src16Imm .bitx), (answer (.trap 0x86)), (answer .clrx),
   (src16Imm .eorx), (src16Imm .adex), (src16Imm .orx), (src16Imm .addx),
   (src16Imm .cped), (src16Imm .cpey), (src16Imm .cpex), (src16Imm .cpes)]

/-- Opcodes $90 to $9F of page 2 (30_encoding.md R106). -/
def page2Row9 : List (Parser Instr) :=
  [
   (src16Dir .subx), (answer (.trap 0x91)), (src16Dir .sbex), (src16Dir .sbed),
   (src16Dir .andx), (src16Dir .bitx), (eaDir .gldaa), (answer .tstx),
   (src16Dir .eorx), (src16Dir .adex), (src16Dir .orx), (src16Dir .addx),
   (src16Dir .cped), (src16Dir .cpey), (src16Dir .cpex), (src16Dir .cpes)]

/-- Opcodes $A0 to $AF of page 2 (30_encoding.md R106). -/
def page2RowA : List (Parser Instr) :=
  [
   (src16Idx .subx), (answer (.trap 0xA1)), (src16Idx .sbex), (src16Idx .sbed),
   (src16Idx .andx), (src16Idx .bitx), (eaIdx .gldaa), (answer (.trap 0xA7)),
   (src16Idx .eorx), (src16Idx .adex), (src16Idx .orx), (src16Idx .addx),
   (src16Idx .cped), (src16Idx .cpey), (src16Idx .cpex), (src16Idx .cpes)]

/-- Opcodes $B0 to $BF of page 2 (30_encoding.md R106). -/
def page2RowB : List (Parser Instr) :=
  [
   (src16Ext .subx), (answer (.trap 0xB1)), (src16Ext .sbex), (src16Ext .sbed),
   (src16Ext .andx), (src16Ext .bitx), (eaExt .gldaa), (answer (.trap 0xB7)),
   (src16Ext .eorx), (src16Ext .adex), (src16Ext .orx), (src16Ext .addx),
   (src16Ext .cped), (src16Ext .cpey), (src16Ext .cpex), (src16Ext .cpes)]

/-- Opcodes $C0 to $CF of page 2 (30_encoding.md R106). -/
def page2RowC : List (Parser Instr) :=
  [
   (src16Imm .suby), (answer (.trap 0xC1)), (src16Imm .sbey), (src16Imm .aded),
   (src16Imm .andy), (src16Imm .bity), (answer (.trap 0xC6)), (answer .clry),
   (src16Imm .eory), (src16Imm .adey), (src16Imm .ory), (src16Imm .addy),
   (answer (.trap 0xCC)), (answer (.trap 0xCD)), (answer (.trap 0xCE)), (answer (.trap 0xCF))]

/-- Opcodes $D0 to $DF of page 2 (30_encoding.md R106). -/
def page2RowD : List (Parser Instr) :=
  [
   (src16Dir .suby), (answer (.trap 0xD1)), (src16Dir .sbey), (src16Dir .aded),
   (src16Dir .andy), (src16Dir .bity), (eaDir .gldab), (answer .tsty),
   (src16Dir .eory), (src16Dir .adey), (src16Dir .ory), (src16Dir .addy),
   (eaDir .gldd), (eaDir .gldy), (eaDir .gldx), (eaDir .glds)]

/-- Opcodes $E0 to $EF of page 2 (30_encoding.md R106). -/
def page2RowE : List (Parser Instr) :=
  [
   (src16Idx .suby), (answer (.trap 0xE1)), (src16Idx .sbey), (src16Idx .aded),
   (src16Idx .andy), (src16Idx .bity), (eaIdx .gldab), (xeaIdx .tstw),
   (src16Idx .eory), (src16Idx .adey), (src16Idx .ory), (src16Idx .addy),
   (eaIdx .gldd), (eaIdx .gldy), (eaIdx .gldx), (eaIdx .glds)]

/-- Opcodes $F0 to $FF of page 2 (30_encoding.md R106). -/
def page2RowF : List (Parser Instr) :=
  [
   (src16Ext .suby), (answer (.trap 0xF1)), (src16Ext .sbey), (src16Ext .aded),
   (src16Ext .andy), (src16Ext .bity), (eaExt .gldab), (xeaExt .tstw),
   (src16Ext .eory), (src16Ext .adey), (src16Ext .ory), (src16Ext .addy),
   (eaExt .gldd), (eaExt .gldy), (eaExt .gldx), (eaExt .glds)]

/-- The page-2 map (30_encoding.md R106). -/
def page2 (op : Byte) : Parser Instr :=
  lookup [page2Row0, page2Row1, page2Row2, page2Row3, page2Row4, page2Row5, page2Row6, page2Row7, page2Row8, page2Row9, page2RowA, page2RowB, page2RowC, page2RowD, page2RowE, page2RowF] op

/-- The prebyte $18 selects page 2, once (30_encoding.md R101). -/
def pageTwo : Parser Instr := withByte fun op => page2 op

/-- Opcodes $00 to $0F of page 1 (30_encoding.md R105). -/
def page1Row0 : List (Parser Instr) :=
  [
   (answer .bgnd), (answer .mem), (answer .iny), (answer .dey),
   loopPrimitive, (xeaIdx .jmp), (xeaExt .jmp), (pByte .bsr),
   (answer .inx), (answer .dex), (answer .rtc), (answer .rti),
   (bitIdx .bset), (bitIdx .bclr), (bitRelIdx .brset), (bitRelIdx .brclr)]

/-- Opcodes $10 to $1F of page 1 (30_encoding.md R105). -/
def page1Row1 : List (Parser Instr) :=
  [
   (pByte .andcc), (answer .ediv), (answer .mul), (answer .emul),
   (pByte .orcc), (eaIdx .jsr), (eaExt .jsr), (eaDir .jsr),
   pageTwo, (directIdx .leay), (directIdx .leax), (directIdx .leas),
   (bitExt .bset), (bitExt .bclr), (bitRelExt .brset), (bitRelExt .brclr)]

/-- Opcodes $20 to $2F of page 1 (30_encoding.md R105). -/
def page1Row2 : List (Parser Instr) :=
  [
   (pByte .bra), (pByte .brn), (pByte .bhi), (pByte .bls),
   (pByte .bcc), (pByte .bcs), (pByte .bne), (pByte .beq),
   (pByte .bvc), (pByte .bvs), (pByte .bpl), (pByte .bmi),
   (pByte .bge), (pByte .blt), (pByte .bgt), (pByte .ble)]

/-- Opcodes $30 to $3F of page 1 (30_encoding.md R105). -/
def page1Row3 : List (Parser Instr) :=
  [
   (answer .pulx), (answer .puly), (answer .pula), (answer .pulb),
   (answer .pshx), (answer .pshy), (answer .psha), (answer .pshb),
   (answer .pulc), (answer .pshc), (answer .puld), (answer .pshd),
   (answer .wavr), (answer .rts), (answer .wai), (answer .swi)]

/-- Opcodes $40 to $4F of page 1 (30_encoding.md R105). -/
def page1Row4 : List (Parser Instr) :=
  [
   (answer .nega), (answer .coma), (answer .inca), (answer .deca),
   (answer .lsra), (answer .rola), (answer .rora), (answer .asra),
   (answer .asla), (answer .lsrd), callExt, callIdx,
   (bitDir .bset), (bitDir .bclr), (bitRelDir .brset), (bitRelDir .brclr)]

/-- Opcodes $50 to $5F of page 1 (30_encoding.md R105). -/
def page1Row5 : List (Parser Instr) :=
  [
   (answer .negb), (answer .comb), (answer .incb), (answer .decb),
   (answer .lsrb), (answer .rolb), (answer .rorb), (answer .asrb),
   (answer .aslb), (answer .asld), (eaDir .staa), (eaDir .stab),
   (eaDir .std), (eaDir .sty), (eaDir .stx), (eaDir .sts)]

/-- Opcodes $60 to $6F of page 1 (30_encoding.md R105). -/
def page1Row6 : List (Parser Instr) :=
  [
   (xeaIdx .neg), (xeaIdx .com), (xeaIdx .inc), (xeaIdx .dec),
   (xeaIdx .lsr), (xeaIdx .rol), (xeaIdx .ror), (xeaIdx .asr),
   (xeaIdx .asl), (xeaIdx .clr), (eaIdx .staa), (eaIdx .stab),
   (eaIdx .std), (eaIdx .sty), (eaIdx .stx), (eaIdx .sts)]

/-- Opcodes $70 to $7F of page 1 (30_encoding.md R105). -/
def page1Row7 : List (Parser Instr) :=
  [
   (xeaExt .neg), (xeaExt .com), (xeaExt .inc), (xeaExt .dec),
   (xeaExt .lsr), (xeaExt .rol), (xeaExt .ror), (xeaExt .asr),
   (xeaExt .asl), (xeaExt .clr), (eaExt .staa), (eaExt .stab),
   (eaExt .std), (eaExt .sty), (eaExt .stx), (eaExt .sts)]

/-- Opcodes $80 to $8F of page 1 (30_encoding.md R105). -/
def page1Row8 : List (Parser Instr) :=
  [
   (src8Imm .suba), (src8Imm .cmpa), (src8Imm .sbca), (src16Imm .subd),
   (src8Imm .anda), (src8Imm .bita), (src8Imm .ldaa), (answer .clra),
   (src8Imm .eora), (src8Imm .adca), (src8Imm .oraa), (src8Imm .adda),
   (src16Imm .cpd), (src16Imm .cpy), (src16Imm .cpx), (src16Imm .cps)]

/-- Opcodes $90 to $9F of page 1 (30_encoding.md R105). -/
def page1Row9 : List (Parser Instr) :=
  [
   (src8Dir .suba), (src8Dir .cmpa), (src8Dir .sbca), (src16Dir .subd),
   (src8Dir .anda), (src8Dir .bita), (src8Dir .ldaa), (answer .tsta),
   (src8Dir .eora), (src8Dir .adca), (src8Dir .oraa), (src8Dir .adda),
   (src16Dir .cpd), (src16Dir .cpy), (src16Dir .cpx), (src16Dir .cps)]

/-- Opcodes $A0 to $AF of page 1 (30_encoding.md R105). -/
def page1RowA : List (Parser Instr) :=
  [
   (src8Idx .suba), (src8Idx .cmpa), (src8Idx .sbca), (src16Idx .subd),
   (src8Idx .anda), (src8Idx .bita), (src8Idx .ldaa), (answer .nop),
   (src8Idx .eora), (src8Idx .adca), (src8Idx .oraa), (src8Idx .adda),
   (src16Idx .cpd), (src16Idx .cpy), (src16Idx .cpx), (src16Idx .cps)]

/-- Opcodes $B0 to $BF of page 1 (30_encoding.md R105). -/
def page1RowB : List (Parser Instr) :=
  [
   (src8Ext .suba), (src8Ext .cmpa), (src8Ext .sbca), (src16Ext .subd),
   (src8Ext .anda), (src8Ext .bita), (src8Ext .ldaa), registerPair,
   (src8Ext .eora), (src8Ext .adca), (src8Ext .oraa), (src8Ext .adda),
   (src16Ext .cpd), (src16Ext .cpy), (src16Ext .cpx), (src16Ext .cps)]

/-- Opcodes $C0 to $CF of page 1 (30_encoding.md R105). -/
def page1RowC : List (Parser Instr) :=
  [
   (src8Imm .subb), (src8Imm .cmpb), (src8Imm .sbcb), (src16Imm .addd),
   (src8Imm .andb), (src8Imm .bitb), (src8Imm .ldab), (answer .clrb),
   (src8Imm .eorb), (src8Imm .adcb), (src8Imm .orab), (src8Imm .addb),
   (src16Imm .ldd), (src16Imm .ldy), (src16Imm .ldx), (src16Imm .lds)]

/-- Opcodes $D0 to $DF of page 1 (30_encoding.md R105). -/
def page1RowD : List (Parser Instr) :=
  [
   (src8Dir .subb), (src8Dir .cmpb), (src8Dir .sbcb), (src16Dir .addd),
   (src8Dir .andb), (src8Dir .bitb), (src8Dir .ldab), (answer .tstb),
   (src8Dir .eorb), (src8Dir .adcb), (src8Dir .orab), (src8Dir .addb),
   (src16Dir .ldd), (src16Dir .ldy), (src16Dir .ldx), (src16Dir .lds)]

/-- Opcodes $E0 to $EF of page 1 (30_encoding.md R105). -/
def page1RowE : List (Parser Instr) :=
  [
   (src8Idx .subb), (src8Idx .cmpb), (src8Idx .sbcb), (src16Idx .addd),
   (src8Idx .andb), (src8Idx .bitb), (src8Idx .ldab), (xeaIdx .tst),
   (src8Idx .eorb), (src8Idx .adcb), (src8Idx .orab), (src8Idx .addb),
   (src16Idx .ldd), (src16Idx .ldy), (src16Idx .ldx), (src16Idx .lds)]

/-- Opcodes $F0 to $FF of page 1 (30_encoding.md R105). -/
def page1RowF : List (Parser Instr) :=
  [
   (src8Ext .subb), (src8Ext .cmpb), (src8Ext .sbcb), (src16Ext .addd),
   (src8Ext .andb), (src8Ext .bitb), (src8Ext .ldab), (xeaExt .tst),
   (src8Ext .eorb), (src8Ext .adcb), (src8Ext .orab), (src8Ext .addb),
   (src16Ext .ldd), (src16Ext .ldy), (src16Ext .ldx), (src16Ext .lds)]

/-- The page-1 map (30_encoding.md R105). -/
def page1 (op : Byte) : Parser Instr :=
  lookup [page1Row0, page1Row1, page1Row2, page1Row3, page1Row4, page1Row5, page1Row6, page1Row7, page1Row8, page1Row9, page1RowA, page1RowB, page1RowC, page1RowD, page1RowE, page1RowF] op

/-- The instruction that the bytes begin with and the bytes after it (30_encoding.md R109). -/
def decode : Parser Instr := withByte fun op => page1 op

/-- The bytes of a row of opcode_table.json: it numbers them as 16-bit words, each stored high byte first
(30_encoding.md R112: first byte most significant; 20_memory.md R63). -/
def tableBytes : Nat → Nat → List Byte
  | 0, _ => []
  | 1, w => [BitVec.ofNat 8 w]
  | n + 2, w => BitVec.ofNat 8 (w / 256) :: BitVec.ofNat 8 w :: tableBytes n (w / 65536)

/-- The eight bytes of a table row with every bit above its own 0. -/
def tableProgram (nbits w : Nat) : List Byte :=
  let bs := tableBytes (nbits / 8) w
  bs ++ List.replicate (8 - bs.length) 0x00#8

/-- The instruction the decoder reads from a row of opcode_table.json whose bits are `w`. -/
def decodeTableWord (nbits w : Nat) : Option Instr :=
  match decode (tableProgram nbits w) with
  | .ok (i, _) => some i
  | .error _ => none

/-- The object code of a word field (20_memory.md R63). -/
def wordBytes (w : Word) : List Byte := [hiByte w, loByte w]

/-- The page-2 prebyte (30_encoding.md R101). -/
def prebyte : List Byte := [0x18]

/-- The postbyte and extension bytes of an indexed operand (31_indexed_postbyte.md R141). -/
def Idx.bytes : Idx → List Byte
  | .off5 r n => [r.bits ++ 0#1 ++ n]
  | .auto r post n => [r.bits ++ 1#1 ++ BitVec.ofBool post ++ n]
  | .off9 r n => [7#3 ++ r.bits ++ 0#2 ++ n.extractLsb' 8 1, n.extractLsb' 0 8]
  | .off16 r n => (7#3 ++ r.bits ++ 2#3) :: wordBytes n
  | .ind16 r n => (7#3 ++ r.bits ++ 3#3) :: wordBytes n
  | .acc r via => [7#3 ++ r.bits ++ 1#1 ++ via.bits]
  | .indD r => [7#3 ++ r.bits ++ 7#3]

/-- Object code of an instruction with direct, extended and indexed forms. -/
def encEa (page : List Byte) (dir ext idx : Byte) : Ea → List Byte
  | .dir dd => page ++ [dir, dd]
  | .ext w => page ++ [ext] ++ wordBytes w
  | .idx i => page ++ [idx] ++ i.bytes

/-- Object code of an instruction with extended and indexed forms. -/
def encXea (page : List Byte) (ext idx : Byte) : Xea → List Byte
  | .ext w => page ++ [ext] ++ wordBytes w
  | .idx i => page ++ [idx] ++ i.bytes

/-- Object code of an instruction with an 8-bit source. -/
def encSrc8 (page : List Byte) (imm dir ext idx : Byte) : Src8 → List Byte
  | .imm v => page ++ [imm, v]
  | .mem e => encEa page dir ext idx e

/-- Object code of an instruction with a 16-bit source. -/
def encSrc16 (page : List Byte) (imm dir ext idx : Byte) : Src16 → List Byte
  | .imm v => page ++ [imm] ++ wordBytes v
  | .mem e => encEa page dir ext idx e

/-- `04 lb rr`, bit 3 of lb written 0 (47_branch_loop_jump.md R741). -/
def encLoop (op : BitVec 3) (c : Ctr) (rel : BitVec 9) : List Byte :=
  [0x04, op ++ rel.extractLsb' 8 1 ++ 0#1 ++ c.bits, rel.extractLsb' 0 8]

/-- The eb postbyte (41_transfer_exchange.md R300). -/
def encPair (exchange : BitVec 1) (extended : Bool) (src dst : RegCode) : Byte :=
  exchange ++ src.bits ++ BitVec.ofBool extended ++ dst.bits

/-- The register code of a SEX source (R306). -/
def SexSrc.code : SexSrc → RegCode
  | .a => .a
  | .b => .b
  | .ccr => .ccr

/-- The register code of a SEX destination (R306). -/
def SexDst.code : SexDst → RegCode
  | .tmp2 => .tmp
  | .d => .d
  | .x => .x
  | .y => .y
  | .sp => .sp

/-- The eb postbyte of SEX (41_transfer_exchange.md R306). -/
def SexOp.postbyte : SexOp → Byte
  | .byte src dst => encPair 0#1 false src.code dst.code
  | .aToD => 0x0C
  | .bToD => 0x1C
  | .dToX => 0x4D
  | .dToY => 0x4E

/-- The TFR that a SEX is (R306). -/
def SexOp.transfer : SexOp → Instr
  | .byte src dst => .tfr false src.code dst.code
  | .aToD => .tfr true .a .d
  | .bToD => .tfr true .b .d
  | .dToX => .tfr true .d .x
  | .dToY => .tfr true .d .y

/-- Object code of CALL (47_branch_loop_jump.md R752). -/
def encCall : CallTarget → List Byte
  | .ext w pg => [0x4A] ++ wordBytes w ++ [pg]
  | .idx i pg => [0x4B] ++ i.bytes ++ [pg]
  | .ind i => [0x4B] ++ i.bytes

/-- Object code of MOVB (40_load_store_move.md R228). -/
def encMove8 : MoveSrc8 → Xea → List Byte
  | .imm v, .ext d => prebyte ++ [0x0B, v] ++ wordBytes d
  | .imm v, .idx d => prebyte ++ [0x08] ++ d.bytes ++ [v]
  | .mem (.ext s), .ext d => prebyte ++ [0x0C] ++ wordBytes s ++ wordBytes d
  | .mem (.ext s), .idx d => prebyte ++ [0x09] ++ d.bytes ++ wordBytes s
  | .mem (.idx s), .ext d => prebyte ++ [0x0D] ++ s.bytes ++ wordBytes d
  | .mem (.idx s), .idx d => prebyte ++ [0x0A] ++ s.bytes ++ d.bytes

/-- Object code of MOVW (40_load_store_move.md R228). -/
def encMove16 : MoveSrc16 → Xea → List Byte
  | .imm v, .ext d => prebyte ++ [0x03] ++ wordBytes v ++ wordBytes d
  | .imm v, .idx d => prebyte ++ [0x00] ++ d.bytes ++ wordBytes v
  | .mem (.ext s), .ext d => prebyte ++ [0x04] ++ wordBytes s ++ wordBytes d
  | .mem (.ext s), .idx d => prebyte ++ [0x01] ++ d.bytes ++ wordBytes s
  | .mem (.idx s), .ext d => prebyte ++ [0x05] ++ s.bytes ++ wordBytes d
  | .mem (.idx s), .idx d => prebyte ++ [0x02] ++ s.bytes ++ d.bytes

/-- The core instruction that an instruction's words decode to: a second name's core (30_encoding.md R111, R112), every
other instruction itself.  Log 28. -/
def Instr.canon : Instr → Instr
  | .ldaa p => .ldaa p
  | .ldab p => .ldab p
  | .ldd p => .ldd p
  | .lds p => .lds p
  | .ldx p => .ldx p
  | .ldy p => .ldy p
  | .staa p => .staa p
  | .stab p => .stab p
  | .std p => .std p
  | .sts p => .sts p
  | .stx p => .stx p
  | .sty p => .sty p
  | .leas p => .leas p
  | .leax p => .leax p
  | .leay p => .leay p
  | .abx => .leax (.acc .x .b)
  | .aby => .leay (.acc .y .b)
  | .des => .leas (.off5 .sp 0x1F)
  | .ins => .leas (.off5 .sp 0x01)
  | .gldaa p => .gldaa p
  | .gldab p => .gldab p
  | .gldd p => .gldd p
  | .glds p => .glds p
  | .gldx p => .gldx p
  | .gldy p => .gldy p
  | .gstaa p => .gstaa p
  | .gstab p => .gstab p
  | .gstd p => .gstd p
  | .gsts p => .gsts p
  | .gstx p => .gstx p
  | .gsty p => .gsty p
  | .aba => .aba
  | .adca p => .adca p
  | .adcb p => .adcb p
  | .adda p => .adda p
  | .addb p => .addb p
  | .addd p => .addd p
  | .addx p => .addx p
  | .addy p => .addy p
  | .aded p => .aded p
  | .adex p => .adex p
  | .adey p => .adey p
  | .sba => .sba
  | .sbca p => .sbca p
  | .sbcb p => .sbcb p
  | .suba p => .suba p
  | .subb p => .subb p
  | .subd p => .subd p
  | .subx p => .subx p
  | .suby p => .suby p
  | .sbed p => .sbed p
  | .sbex p => .sbex p
  | .sbey p => .sbey p
  | .cba => .cba
  | .cmpa p => .cmpa p
  | .cmpb p => .cmpb p
  | .cpd p => .cpd p
  | .cps p => .cps p
  | .cpx p => .cpx p
  | .cpy p => .cpy p
  | .cped p => .cped p
  | .cpes p => .cpes p
  | .cpex p => .cpex p
  | .cpey p => .cpey p
  | .daa => .daa
  | .anda p => .anda p
  | .andb p => .andb p
  | .andx p => .andx p
  | .andy p => .andy p
  | .bita p => .bita p
  | .bitb p => .bitb p
  | .bitx p => .bitx p
  | .bity p => .bity p
  | .eora p => .eora p
  | .eorb p => .eorb p
  | .eorx p => .eorx p
  | .eory p => .eory p
  | .oraa p => .oraa p
  | .orab p => .orab p
  | .orx p => .orx p
  | .ory p => .ory p
  | .bclr p q => .bclr p q
  | .bset p q => .bset p q
  | .btas p q => .btas p q
  | .clr p => .clr p
  | .clra => .clra
  | .clrb => .clrb
  | .clrw p => .clrw p
  | .clrx => .clrx
  | .clry => .clry
  | .com p => .com p
  | .coma => .coma
  | .comb => .comb
  | .comw p => .comw p
  | .comx => .comx
  | .comy => .comy
  | .neg p => .neg p
  | .nega => .nega
  | .negb => .negb
  | .negw p => .negw p
  | .negx => .negx
  | .negy => .negy
  | .dec p => .dec p
  | .deca => .deca
  | .decb => .decb
  | .decw p => .decw p
  | .decx => .decx
  | .decy => .decy
  | .dex => .dex
  | .dey => .dey
  | .inc p => .inc p
  | .inca => .inca
  | .incb => .incb
  | .incw p => .incw p
  | .incx => .incx
  | .incy => .incy
  | .inx => .inx
  | .iny => .iny
  | .tst p => .tst p
  | .tsta => .tsta
  | .tstb => .tstb
  | .tstw p => .tstw p
  | .tstx => .tstx
  | .tsty => .tsty
  | .asl p => .asl p
  | .asla => .asla
  | .aslb => .aslb
  | .asld => .asld
  | .aslw p => .aslw p
  | .aslx => .aslx
  | .asly => .asly
  | .lsl p => .asl p
  | .lsla => .asla
  | .lslb => .aslb
  | .lsld => .asld
  | .lslw p => .aslw p
  | .lslx => .aslx
  | .lsly => .asly
  | .asr p => .asr p
  | .asra => .asra
  | .asrb => .asrb
  | .asrw p => .asrw p
  | .asrx => .asrx
  | .asry => .asry
  | .lsr p => .lsr p
  | .lsra => .lsra
  | .lsrb => .lsrb
  | .lsrd => .lsrd
  | .lsrw p => .lsrw p
  | .lsrx => .lsrx
  | .lsry => .lsry
  | .rol p => .rol p
  | .rola => .rola
  | .rolb => .rolb
  | .rolw p => .rolw p
  | .rolx => .rolx
  | .roly => .roly
  | .ror p => .ror p
  | .rora => .rora
  | .rorb => .rorb
  | .rorw p => .rorw p
  | .rorx => .rorx
  | .rory => .rory
  | .mul => .mul
  | .emul => .emul
  | .emuls => .emuls
  | .emacs p => .emacs p
  | .ediv => .ediv
  | .edivs => .edivs
  | .idiv => .idiv
  | .idivs => .idivs
  | .fdiv => .fdiv
  | .maxa p => .maxa p
  | .maxm p => .maxm p
  | .mina p => .mina p
  | .minm p => .minm p
  | .emaxd p => .emaxd p
  | .emaxm p => .emaxm p
  | .emind p => .emind p
  | .eminm p => .eminm p
  | .tbl p => .tbl p
  | .etbl p => .etbl p
  | .bcc p => .bcc p
  | .bcs p => .bcs p
  | .beq p => .beq p
  | .bge p => .bge p
  | .bgt p => .bgt p
  | .bhi p => .bhi p
  | .bhs p => .bcc p
  | .ble p => .ble p
  | .blo p => .bcs p
  | .bls p => .bls p
  | .blt p => .blt p
  | .bmi p => .bmi p
  | .bne p => .bne p
  | .bpl p => .bpl p
  | .bra p => .bra p
  | .brn p => .brn p
  | .bvc p => .bvc p
  | .bvs p => .bvs p
  | .lbcc p => .lbcc p
  | .lbcs p => .lbcs p
  | .lbeq p => .lbeq p
  | .lbge p => .lbge p
  | .lbgt p => .lbgt p
  | .lbhi p => .lbhi p
  | .lbhs p => .lbcc p
  | .lble p => .lble p
  | .lblo p => .lbcs p
  | .lbls p => .lbls p
  | .lblt p => .lblt p
  | .lbmi p => .lbmi p
  | .lbne p => .lbne p
  | .lbpl p => .lbpl p
  | .lbra p => .lbra p
  | .lbrn p => .lbrn p
  | .lbvc p => .lbvc p
  | .lbvs p => .lbvs p
  | .brclr p q r => .brclr p q r
  | .brset p q r => .brset p q r
  | .dbeq p q => .dbeq p q
  | .dbne p q => .dbne p q
  | .ibeq p q => .ibeq p q
  | .ibne p q => .ibne p q
  | .tbeq p q => .tbeq p q
  | .tbne p q => .tbne p q
  | .jmp p => .jmp p
  | .jsr p => .jsr p
  | .bsr p => .bsr p
  | .call p => .call p
  | .rtc => .rtc
  | .rts => .rts
  | .psha => .psha
  | .pshb => .pshb
  | .pshc => .pshc
  | .pshcw => .pshcw
  | .pshd => .pshd
  | .pshx => .pshx
  | .pshy => .pshy
  | .pula => .pula
  | .pulb => .pulb
  | .pulc => .pulc
  | .pulcw => .pulcw
  | .puld => .puld
  | .pulx => .pulx
  | .puly => .puly
  | .andcc p => .andcc p
  | .orcc p => .orcc p
  | .clc => .andcc 0xFE
  | .cli => .andcc 0xEF
  | .clv => .andcc 0xFD
  | .sec => .orcc 0x01
  | .sei => .orcc 0x10
  | .sev => .orcc 0x02
  | .nop => .nop
  | .bgnd => .bgnd
  | .swi => .swi
  | .rti => .rti
  | .stop => .stop
  | .wai => .wai
  | .mem => .mem
  | .rev => .rev
  | .revw => .revw
  | .wav => .wav
  | .tfr p q r => .tfr p q r
  | .sex op => op.transfer
  | .exg p q r => .exg p q r
  | .tab => .tab
  | .tba => .tba
  | .tap => .tfr false .a .ccr
  | .tpa => .tfr false .ccr .a
  | .tsx => .tfr false .sp .x
  | .tsy => .tfr false .sp .y
  | .txs => .tfr false .x .sp
  | .tys => .tfr false .y .sp
  | .xgdx => .exg false .d .x
  | .xgdy => .exg false .d .y
  | .movb p q => .movb p q
  | .movw p q => .movw p q
  | .trap p => .trap p
  | .wavr => .wavr

/-- The object code of a well-formed instruction, written from the same tables (30_encoding.md R105, R106, R111). -/
def encode : Instr → List Byte
  | .ldaa s => encSrc8 [] 0x86 0x96 0xB6 0xA6 s
  | .ldab s => encSrc8 [] 0xC6 0xD6 0xF6 0xE6 s
  | .ldd s => encSrc16 [] 0xCC 0xDC 0xFC 0xEC s
  | .lds s => encSrc16 [] 0xCF 0xDF 0xFF 0xEF s
  | .ldx s => encSrc16 [] 0xCE 0xDE 0xFE 0xEE s
  | .ldy s => encSrc16 [] 0xCD 0xDD 0xFD 0xED s
  | .staa e => encEa [] 0x5A 0x7A 0x6A e
  | .stab e => encEa [] 0x5B 0x7B 0x6B e
  | .std e => encEa [] 0x5C 0x7C 0x6C e
  | .sts e => encEa [] 0x5F 0x7F 0x6F e
  | .stx e => encEa [] 0x5E 0x7E 0x6E e
  | .sty e => encEa [] 0x5D 0x7D 0x6D e
  | .leas i => [0x1B] ++ i.bytes
  | .leax i => [0x1A] ++ i.bytes
  | .leay i => [0x19] ++ i.bytes
  | .abx => [0x1A, 0xE5]
  | .aby => [0x19, 0xED]
  | .des => [0x1B, 0x9F]
  | .ins => [0x1B, 0x81]
  | .gldaa e => encEa prebyte 0x96 0xB6 0xA6 e
  | .gldab e => encEa prebyte 0xD6 0xF6 0xE6 e
  | .gldd e => encEa prebyte 0xDC 0xFC 0xEC e
  | .glds e => encEa prebyte 0xDF 0xFF 0xEF e
  | .gldx e => encEa prebyte 0xDE 0xFE 0xEE e
  | .gldy e => encEa prebyte 0xDD 0xFD 0xED e
  | .gstaa e => encEa prebyte 0x5A 0x7A 0x6A e
  | .gstab e => encEa prebyte 0x5B 0x7B 0x6B e
  | .gstd e => encEa prebyte 0x5C 0x7C 0x6C e
  | .gsts e => encEa prebyte 0x5F 0x7F 0x6F e
  | .gstx e => encEa prebyte 0x5E 0x7E 0x6E e
  | .gsty e => encEa prebyte 0x5D 0x7D 0x6D e
  | .aba => prebyte ++ [0x06]
  | .adca s => encSrc8 [] 0x89 0x99 0xB9 0xA9 s
  | .adcb s => encSrc8 [] 0xC9 0xD9 0xF9 0xE9 s
  | .adda s => encSrc8 [] 0x8B 0x9B 0xBB 0xAB s
  | .addb s => encSrc8 [] 0xCB 0xDB 0xFB 0xEB s
  | .addd s => encSrc16 [] 0xC3 0xD3 0xF3 0xE3 s
  | .addx s => encSrc16 prebyte 0x8B 0x9B 0xBB 0xAB s
  | .addy s => encSrc16 prebyte 0xCB 0xDB 0xFB 0xEB s
  | .aded s => encSrc16 prebyte 0xC3 0xD3 0xF3 0xE3 s
  | .adex s => encSrc16 prebyte 0x89 0x99 0xB9 0xA9 s
  | .adey s => encSrc16 prebyte 0xC9 0xD9 0xF9 0xE9 s
  | .sba => prebyte ++ [0x16]
  | .sbca s => encSrc8 [] 0x82 0x92 0xB2 0xA2 s
  | .sbcb s => encSrc8 [] 0xC2 0xD2 0xF2 0xE2 s
  | .suba s => encSrc8 [] 0x80 0x90 0xB0 0xA0 s
  | .subb s => encSrc8 [] 0xC0 0xD0 0xF0 0xE0 s
  | .subd s => encSrc16 [] 0x83 0x93 0xB3 0xA3 s
  | .subx s => encSrc16 prebyte 0x80 0x90 0xB0 0xA0 s
  | .suby s => encSrc16 prebyte 0xC0 0xD0 0xF0 0xE0 s
  | .sbed s => encSrc16 prebyte 0x83 0x93 0xB3 0xA3 s
  | .sbex s => encSrc16 prebyte 0x82 0x92 0xB2 0xA2 s
  | .sbey s => encSrc16 prebyte 0xC2 0xD2 0xF2 0xE2 s
  | .cba => prebyte ++ [0x17]
  | .cmpa s => encSrc8 [] 0x81 0x91 0xB1 0xA1 s
  | .cmpb s => encSrc8 [] 0xC1 0xD1 0xF1 0xE1 s
  | .cpd s => encSrc16 [] 0x8C 0x9C 0xBC 0xAC s
  | .cps s => encSrc16 [] 0x8F 0x9F 0xBF 0xAF s
  | .cpx s => encSrc16 [] 0x8E 0x9E 0xBE 0xAE s
  | .cpy s => encSrc16 [] 0x8D 0x9D 0xBD 0xAD s
  | .cped s => encSrc16 prebyte 0x8C 0x9C 0xBC 0xAC s
  | .cpes s => encSrc16 prebyte 0x8F 0x9F 0xBF 0xAF s
  | .cpex s => encSrc16 prebyte 0x8E 0x9E 0xBE 0xAE s
  | .cpey s => encSrc16 prebyte 0x8D 0x9D 0xBD 0xAD s
  | .daa => prebyte ++ [0x07]
  | .anda s => encSrc8 [] 0x84 0x94 0xB4 0xA4 s
  | .andb s => encSrc8 [] 0xC4 0xD4 0xF4 0xE4 s
  | .andx s => encSrc16 prebyte 0x84 0x94 0xB4 0xA4 s
  | .andy s => encSrc16 prebyte 0xC4 0xD4 0xF4 0xE4 s
  | .bita s => encSrc8 [] 0x85 0x95 0xB5 0xA5 s
  | .bitb s => encSrc8 [] 0xC5 0xD5 0xF5 0xE5 s
  | .bitx s => encSrc16 prebyte 0x85 0x95 0xB5 0xA5 s
  | .bity s => encSrc16 prebyte 0xC5 0xD5 0xF5 0xE5 s
  | .eora s => encSrc8 [] 0x88 0x98 0xB8 0xA8 s
  | .eorb s => encSrc8 [] 0xC8 0xD8 0xF8 0xE8 s
  | .eorx s => encSrc16 prebyte 0x88 0x98 0xB8 0xA8 s
  | .eory s => encSrc16 prebyte 0xC8 0xD8 0xF8 0xE8 s
  | .oraa s => encSrc8 [] 0x8A 0x9A 0xBA 0xAA s
  | .orab s => encSrc8 [] 0xCA 0xDA 0xFA 0xEA s
  | .orx s => encSrc16 prebyte 0x8A 0x9A 0xBA 0xAA s
  | .ory s => encSrc16 prebyte 0xCA 0xDA 0xFA 0xEA s
  | .bclr e mm => encEa [] 0x4D 0x1D 0x0D e ++ [mm]
  | .bset e mm => encEa [] 0x4C 0x1C 0x0C e ++ [mm]
  | .btas e mm => encEa prebyte 0x35 0x36 0x37 e ++ [mm]
  | .clr e => encXea [] 0x79 0x69 e
  | .clra => [0x87]
  | .clrb => [0xC7]
  | .clrw e => encXea prebyte 0x79 0x69 e
  | .clrx => prebyte ++ [0x87]
  | .clry => prebyte ++ [0xC7]
  | .com e => encXea [] 0x71 0x61 e
  | .coma => [0x41]
  | .comb => [0x51]
  | .comw e => encXea prebyte 0x71 0x61 e
  | .comx => prebyte ++ [0x41]
  | .comy => prebyte ++ [0x51]
  | .neg e => encXea [] 0x70 0x60 e
  | .nega => [0x40]
  | .negb => [0x50]
  | .negw e => encXea prebyte 0x70 0x60 e
  | .negx => prebyte ++ [0x40]
  | .negy => prebyte ++ [0x50]
  | .dec e => encXea [] 0x73 0x63 e
  | .deca => [0x43]
  | .decb => [0x53]
  | .decw e => encXea prebyte 0x73 0x63 e
  | .decx => prebyte ++ [0x43]
  | .decy => prebyte ++ [0x53]
  | .dex => [0x09]
  | .dey => [0x03]
  | .inc e => encXea [] 0x72 0x62 e
  | .inca => [0x42]
  | .incb => [0x52]
  | .incw e => encXea prebyte 0x72 0x62 e
  | .incx => prebyte ++ [0x42]
  | .incy => prebyte ++ [0x52]
  | .inx => [0x08]
  | .iny => [0x02]
  | .tst e => encXea [] 0xF7 0xE7 e
  | .tsta => [0x97]
  | .tstb => [0xD7]
  | .tstw e => encXea prebyte 0xF7 0xE7 e
  | .tstx => prebyte ++ [0x97]
  | .tsty => prebyte ++ [0xD7]
  | .asl e => encXea [] 0x78 0x68 e
  | .asla => [0x48]
  | .aslb => [0x58]
  | .asld => [0x59]
  | .aslw e => encXea prebyte 0x78 0x68 e
  | .aslx => prebyte ++ [0x48]
  | .asly => prebyte ++ [0x58]
  | .lsl e => encXea [] 0x78 0x68 e
  | .lsla => [0x48]
  | .lslb => [0x58]
  | .lsld => [0x59]
  | .lslw e => encXea prebyte 0x78 0x68 e
  | .lslx => prebyte ++ [0x48]
  | .lsly => prebyte ++ [0x58]
  | .asr e => encXea [] 0x77 0x67 e
  | .asra => [0x47]
  | .asrb => [0x57]
  | .asrw e => encXea prebyte 0x77 0x67 e
  | .asrx => prebyte ++ [0x47]
  | .asry => prebyte ++ [0x57]
  | .lsr e => encXea [] 0x74 0x64 e
  | .lsra => [0x44]
  | .lsrb => [0x54]
  | .lsrd => [0x49]
  | .lsrw e => encXea prebyte 0x74 0x64 e
  | .lsrx => prebyte ++ [0x44]
  | .lsry => prebyte ++ [0x54]
  | .rol e => encXea [] 0x75 0x65 e
  | .rola => [0x45]
  | .rolb => [0x55]
  | .rolw e => encXea prebyte 0x75 0x65 e
  | .rolx => prebyte ++ [0x45]
  | .roly => prebyte ++ [0x55]
  | .ror e => encXea [] 0x76 0x66 e
  | .rora => [0x46]
  | .rorb => [0x56]
  | .rorw e => encXea prebyte 0x76 0x66 e
  | .rorx => prebyte ++ [0x46]
  | .rory => prebyte ++ [0x56]
  | .mul => [0x12]
  | .emul => [0x13]
  | .emuls => prebyte ++ [0x13]
  | .emacs addr => prebyte ++ [0x12] ++ wordBytes addr
  | .ediv => [0x11]
  | .edivs => prebyte ++ [0x14]
  | .idiv => prebyte ++ [0x10]
  | .idivs => prebyte ++ [0x15]
  | .fdiv => prebyte ++ [0x11]
  | .maxa i => prebyte ++ [0x18] ++ i.bytes
  | .maxm i => prebyte ++ [0x1C] ++ i.bytes
  | .mina i => prebyte ++ [0x19] ++ i.bytes
  | .minm i => prebyte ++ [0x1D] ++ i.bytes
  | .emaxd i => prebyte ++ [0x1A] ++ i.bytes
  | .emaxm i => prebyte ++ [0x1E] ++ i.bytes
  | .emind i => prebyte ++ [0x1B] ++ i.bytes
  | .eminm i => prebyte ++ [0x1F] ++ i.bytes
  | .tbl i => prebyte ++ [0x3D] ++ i.bytes
  | .etbl i => prebyte ++ [0x3F] ++ i.bytes
  | .bcc b => [0x24, b]
  | .bcs b => [0x25, b]
  | .beq b => [0x27, b]
  | .bge b => [0x2C, b]
  | .bgt b => [0x2E, b]
  | .bhi b => [0x22, b]
  | .bhs b => [0x24, b]
  | .ble b => [0x2F, b]
  | .blo b => [0x25, b]
  | .bls b => [0x23, b]
  | .blt b => [0x2D, b]
  | .bmi b => [0x2B, b]
  | .bne b => [0x26, b]
  | .bpl b => [0x2A, b]
  | .bra b => [0x20, b]
  | .brn b => [0x21, b]
  | .bvc b => [0x28, b]
  | .bvs b => [0x29, b]
  | .lbcc w => prebyte ++ [0x24] ++ wordBytes w
  | .lbcs w => prebyte ++ [0x25] ++ wordBytes w
  | .lbeq w => prebyte ++ [0x27] ++ wordBytes w
  | .lbge w => prebyte ++ [0x2C] ++ wordBytes w
  | .lbgt w => prebyte ++ [0x2E] ++ wordBytes w
  | .lbhi w => prebyte ++ [0x22] ++ wordBytes w
  | .lbhs w => prebyte ++ [0x24] ++ wordBytes w
  | .lble w => prebyte ++ [0x2F] ++ wordBytes w
  | .lblo w => prebyte ++ [0x25] ++ wordBytes w
  | .lbls w => prebyte ++ [0x23] ++ wordBytes w
  | .lblt w => prebyte ++ [0x2D] ++ wordBytes w
  | .lbmi w => prebyte ++ [0x2B] ++ wordBytes w
  | .lbne w => prebyte ++ [0x26] ++ wordBytes w
  | .lbpl w => prebyte ++ [0x2A] ++ wordBytes w
  | .lbra w => prebyte ++ [0x20] ++ wordBytes w
  | .lbrn w => prebyte ++ [0x21] ++ wordBytes w
  | .lbvc w => prebyte ++ [0x28] ++ wordBytes w
  | .lbvs w => prebyte ++ [0x29] ++ wordBytes w
  | .brclr e mm rr => encEa [] 0x4F 0x1F 0x0F e ++ [mm, rr]
  | .brset e mm rr => encEa [] 0x4E 0x1E 0x0E e ++ [mm, rr]
  | .dbeq c rel => encLoop 0 c rel
  | .dbne c rel => encLoop 1 c rel
  | .ibeq c rel => encLoop 4 c rel
  | .ibne c rel => encLoop 5 c rel
  | .tbeq c rel => encLoop 2 c rel
  | .tbne c rel => encLoop 3 c rel
  | .jmp e => encXea [] 0x06 0x05 e
  | .jsr e => encEa [] 0x17 0x16 0x15 e
  | .bsr b => [0x07, b]
  | .call t => encCall t
  | .rtc => [0x0A]
  | .rts => [0x3D]
  | .psha => [0x36]
  | .pshb => [0x37]
  | .pshc => [0x39]
  | .pshcw => prebyte ++ [0x39]
  | .pshd => [0x3B]
  | .pshx => [0x34]
  | .pshy => [0x35]
  | .pula => [0x32]
  | .pulb => [0x33]
  | .pulc => [0x38]
  | .pulcw => prebyte ++ [0x38]
  | .puld => [0x3A]
  | .pulx => [0x30]
  | .puly => [0x31]
  | .andcc b => [0x10, b]
  | .orcc b => [0x14, b]
  | .clc => [0x10, 0xFE]
  | .cli => [0x10, 0xEF]
  | .clv => [0x10, 0xFD]
  | .sec => [0x14, 0x01]
  | .sei => [0x14, 0x10]
  | .sev => [0x14, 0x02]
  | .nop => [0xA7]
  | .bgnd => [0x00]
  | .swi => [0x3F]
  | .rti => [0x0B]
  | .stop => prebyte ++ [0x3E]
  | .wai => [0x3E]
  | .mem => [0x01]
  | .rev => prebyte ++ [0x3A]
  | .revw => prebyte ++ [0x3B]
  | .wav => prebyte ++ [0x3C]
  | .tfr e src dst => [0xB7, encPair 0#1 e src dst]
  | .sex op => [0xB7, op.postbyte]
  | .exg e src dst => [0xB7, encPair 1#1 e src dst]
  | .tab => prebyte ++ [0x0E]
  | .tba => prebyte ++ [0x0F]
  | .tap => [0xB7, 0x02]
  | .tpa => [0xB7, 0x20]
  | .tsx => [0xB7, 0x75]
  | .tsy => [0xB7, 0x76]
  | .txs => [0xB7, 0x57]
  | .tys => [0xB7, 0x67]
  | .xgdx => [0xB7, 0xC5]
  | .xgdy => [0xB7, 0xC6]
  | .movb src dst => encMove8 src dst
  | .movw src dst => encMove16 src dst
  | .trap tn => prebyte ++ [tn]
  | .wavr => [0x3C]

end Sys2Proof
end

