-- ==== Sys2Proof/Machine/State.lean ====
section
/-! DEFINITION. The state of the machine as plain data: every register, memory, run state, parameter and environment input
that the spec names, the two reason types of a stop, and the state right after reset. -/

namespace Sys2Proof.Machine

/-- The CPU raises no fault of any kind: no access, address, alignment or privilege fault exists (20_memory.md R73,
60_exceptions.md R843, R870).  So nothing raises one; safe.  Log 42. -/
inductive Fault where
  deriving DecidableEq, Repr

/-- Why a step has no successor state. -/
inductive Refusal where
  /-- Raised by `exec` for an instruction that has no meaning in the model; no arm raises it.  Safe. -/
  | notModelled (mnemonic : String)
  /-- Raised by the fetch on a postbyte the spec puts outside specified behaviour (92_eei_decisions.md D4, D5).  Safe. -/
  | outsideEncoding (why : DecodeError)
  /-- Raised by a meaning given an operand that no encoding of the instruction expresses
  (31_indexed_postbyte.md R160); a decoded instruction never has one.  Safe. -/
  | reservedForm
  /-- Raised by the fetch of a byte stored since the last change of flow (20_memory.md R77, 92 D14), log 15.  Safe. -/
  | staleFetch
  deriving DecidableEq, Repr

/-- The kinds of reset: power-on and every other system reset share the vector $FFFE, the clock monitor and the COP have
their own (60_exceptions.md R850); power-on stands apart because it loses RAM (70_reset_and_hazards.md R902). -/
inductive ResetKind where
  | powerOn | system | clockMonitor | cop
  deriving DecidableEq, Repr

/-- The winning maskable request: vector offset and priority level (60_exceptions.md R805). -/
structure Request where
  offset : Byte
  level : BitVec 3
  deriving DecidableEq, Repr

/-- What the environment presents at one recognition point (60_exceptions.md R805, R810; 92 D17, D19). -/
structure Sample where
  /-- The integration module holds the system in reset, with the kind whose vector it has chosen (R850;
  70_reset_and_hazards.md R901). -/
  reset : Option ResetKind
  /-- An XIRQ request (R820). -/
  xirq : Bool
  /-- The maskable candidate (R821). -/
  irq : Option Request
  /-- A debugger-forced SWI before the next instruction (R842). -/
  forceSwi : Bool
  /-- The debug module resumes the program from background mode (92 D17). -/
  debugGo : Bool
  deriving DecidableEq, Repr

/-- Nothing pending: the default of `interrupt_environment` (92 parameter table). -/
def Sample.quiet : Sample := ⟨none, false, none, false, false⟩

/-- What the processor is doing between steps (10_state.md R41): running, waiting after WAI, stopped after STOP, in
background debug, between two elements of REV, REVW or WAV (49_fuzzy.md R1000; log 34), or held in a reset
(70_reset_and_hazards.md R901 step 1). -/
inductive RunState where
  | running | waiting | stopped | background | inRev | inRevw | inWav | inReset (k : ResetKind)
  deriving DecidableEq, Repr

/-- The read/write behaviour of a device register, bit by bit (92 D10; log 47). -/
structure RegisterBehaviour where
  /-- The bits that keep what is stored to them. -/
  stored : Byte
  /-- The bits that a stored 1 clears. -/
  clears : Byte
  /-- The bits that read as 1 whatever they hold. -/
  ones : Byte
  /-- The bits that the device itself changes: a read gives an unspecified value. -/
  volatile : Byte
  /-- The content that a reset gives the register. -/
  atReset : Byte
  deriving DecidableEq, Repr

/-- What the device has at an address (92 D10). -/
inductive RegionKind where
  | ram | rom | unimplemented | register (behaviour : RegisterBehaviour)
  deriving DecidableEq, Repr

/-- A part of the memory map: the physical addresses from `first` to `last` (92 D10). -/
structure Region where
  first : Nat
  last : Nat
  kind : RegionKind
  deriving DecidableEq, Repr

/-- A part of RAM that keeps its content over a reset of one kind (70_reset_and_hazards.md R902; log 49). -/
structure Retained where
  kind : ResetKind
  first : Nat
  last : Nat
  deriving DecidableEq, Repr

/-- What an access does (20_memory.md R62, R74). -/
inductive AccessKind where
  | fetch | read | write
  deriving DecidableEq, Repr

/-- Accesses of one kind to the physical addresses from `first` to `last`, to which the environment answers with the
illegal-address reset (60_exceptions.md R851, 92 D10; log 48). -/
structure IllegalAccess where
  kind : AccessKind
  first : Nat
  last : Nat
  deriving DecidableEq, Repr

/-- The registers of other modules that the CPU uses and a program reaches through memory (10_state.md R37 to R40). -/
inductive PageReg where
  | ppage | gpage | direct | vb
  deriving DecidableEq, Repr

/-- The parameters the spec leaves to the device (00_scope.md R18, 92 parameter table).  No step changes them.
Log 12. -/
structure Device where
  /-- The device has expanded memory: $8000 to $BFFF is the PPAGE window (20_memory.md R69). -/
  expanded : Bool
  /-- The logical address of PPAGE (10_state.md R37). -/
  ppageAddr : Option Word
  /-- The logical address of GPAGE (R38). -/
  gpageAddr : Option Word
  /-- The logical address of DIRECT (R39). -/
  directAddr : Option Word
  /-- The logical address of the vector base register (R40). -/
  vbAddr : Option Word
  /-- `memory_map`: RAM, ROM, device registers and unimplemented addresses; an address in no region is RAM. -/
  regions : List Region
  /-- `illegal_address_reset`: the accesses for which it is true (R851, 92 D10). -/
  illegal : List IllegalAccess
  /-- What RAM keeps over a reset (70_reset_and_hazards.md R902). -/
  retained : List Retained
  /-- `direct_reset` (92 D9). -/
  directReset : Byte
  /-- `vb_reset` (92 D20). -/
  vbReset : Byte
  /-- `ppage_reset` (92 D21). -/
  ppageReset : Byte
  /-- `gpage_reset` (92 D21). -/
  gpageReset : BitVec 7
  /-- `xirq_ipl`: the level XIRQ entry loads into IPL, or none for "unchanged" (92 D19). -/
  xirqIpl : Option (BitVec 3)
  /-- `bdm_enabled` (92 D17). -/
  bdmEnabled : Bool
  deriving DecidableEq, Repr

/-- The defaults of the parameter table (92_eei_decisions.md); where it has none, log 6 and log 12. -/
def Device.default : Device where
  expanded := false
  ppageAddr := none
  gpageAddr := none
  directAddr := none
  vbAddr := none
  regions := []
  illegal := []
  retained := []
  directReset := 0x00
  vbReset := 0xFF
  ppageReset := 0x00
  gpageReset := 0x00
  xirqIpl := some 7
  bdmEnabled := false

/-- The machine. -/
structure State where
  /-- Accumulator A (10_state.md R20), the high byte of D (R21). -/
  a : Byte
  /-- Accumulator B (R20), the low byte of D (R21). -/
  b : Byte
  /-- Index register X (R23). -/
  x : Word
  /-- Index register Y (R23). -/
  y : Word
  /-- Stack pointer: the address of the last byte pushed (R24). -/
  sp : Word
  /-- Program counter (R25); inside a meaning it is PCnext (00_scope.md R14, log 10). -/
  pc : Word
  /-- Condition codes S X H I N Z V C, bit 7 to bit 0 (R26). -/
  ccr : Byte
  /-- IPL[2:0], the bits of CCRH that exist (R27, R28; log 40). -/
  ipl : BitVec 3
  /-- Temporary register TMP1 (R36). -/
  tmp1 : Word
  /-- Temporary register TMP2 (R36). -/
  tmp2 : Word
  /-- Temporary register TMP3 (R36). -/
  tmp3 : Word
  /-- Program page register (R37). -/
  ppage : Byte
  /-- Global page register (R38). -/
  gpage : BitVec 7
  /-- Direct page register (R39). -/
  direct : Byte
  /-- Interrupt vector base (R40). -/
  vb : Byte
  /-- Memory: logical map, page memory and global space (20_memory.md R60, R69, R72), in the canonical form of
  `Memory.wf` (log 11). -/
  mem : List Host.Cell
  /-- Run state (R41). -/
  run : RunState
  /-- The last instruction cleared I: the next boundary is no recognition point for maskable requests
  (60_exceptions.md R822). -/
  iDelay : Bool
  /-- The model's own: addresses whose fetch before a change of flow is a refusal case (92 D14, log 15). -/
  stale : List Word
  /-- What the environment presents at the coming recognition points, one sample each; none left means nothing pending
  (log 16). -/
  inputs : List Sample
  /-- The device parameters (92 parameter table). -/
  device : Device
  /-- The model's own: how many free values have been used (log 9). -/
  free : Nat
  deriving DecidableEq, Repr

/-- The machine right after a system reset (70_reset_and_hazards.md R900, R903): S, X and I set, IPL 0, running at the
address the vector at $FFFE holds, which in memory with nothing listed is $0000.  The registers the spec states no
value for are zero (DESIGN CHOICE, logs 2, 3, 5, 6). -/
def State.reset : State where
  a := 0x00
  b := 0x00
  x := 0x0000
  y := 0x0000
  sp := 0x0000
  pc := 0x0000
  ccr := 0xD0
  ipl := 0
  tmp1 := 0x0000
  tmp2 := 0x0000
  tmp3 := 0x0000
  ppage := 0x00
  gpage := 0x00
  direct := 0x00
  vb := 0xFF
  mem := []
  run := .running
  iDelay := false
  stale := []
  inputs := []
  device := Device.default
  free := 0

end Sys2Proof.Machine
end

