-- ==== Sys2Proof/Machine/Memory.lean ====
section
/-! DEFINITION. Memory as a canonical list of bytes: reading and writing one byte by physical address, and the form the
list keeps (log 1, log 11). -/

namespace Sys2Proof.Machine

/-- One past the highest physical address: the global space ends at $FFFFFF of the model's numbering (log 11). -/
def Memory.limit : Nat := 0x1000000

/-- The byte at a physical address; one that nothing has written reads as `Config.unlistedByte` (log 1). -/
def Memory.read (m : List Host.Cell) (k : Nat) : Byte :=
  match m with
  | [] => Config.unlistedByte
  | (k', v) :: rest => if k' = k then v else Memory.read rest k

/-- Put a byte in front of a memory whose addresses all lie above its own, unless it reads as unlisted anyway. -/
def Memory.cons (k : Nat) (v : Byte) (m : List Host.Cell) : List Host.Cell :=
  if v = Config.unlistedByte then m else (k, v) :: m

/-- Store a byte, keeping the canonical form. -/
def Memory.write (m : List Host.Cell) (k : Nat) (v : Byte) : List Host.Cell :=
  match m with
  | [] => Memory.cons k v []
  | (k', v') :: rest =>
    if k < k' then Memory.cons k v ((k', v') :: rest)
    else if k = k' then Memory.cons k v rest
    else (k', v') :: Memory.write rest k v

/-- The memory that holds what `f` gives the `n` addresses from `lo` on. -/
def Memory.tabulate (f : Nat → Byte) (lo n : Nat) : List Host.Cell :=
  match n with
  | 0 => []
  | n + 1 => Memory.cons lo (f lo) (Memory.tabulate f (lo + 1) n)

/-- Addresses rise strictly from `lo` on, stay below the limit, and no byte is the one an unlisted address reads as. -/
def Memory.wfFrom (lo : Nat) : List Host.Cell → Bool
  | [] => true
  | (k, v) :: rest => decide (lo ≤ k) && decide (k < Memory.limit) && (v != Config.unlistedByte) && Memory.wfFrom (k + 1) rest

/-- The canonical form of memory. -/
def Memory.wf (m : List Host.Cell) : Bool := Memory.wfFrom 0 m

end Sys2Proof.Machine
end

