-- ==== Sys2Proof/Machine/Ops.lean ====
section
/-! DEFINITION. The operations every meaning is built from: register writes, memory accesses, the stack, the condition-code
write rule, free values, changes of flow, taking an exception and returning from one. -/

namespace Sys2Proof.Machine

/-! ## Registers -/

/-- Write A (10_state.md R20). -/
def State.setA (s : State) (v : Byte) : State := { s with a := v }
/-- Write B (10_state.md R20). -/
def State.setB (s : State) (v : Byte) : State := { s with b := v }
/-- Write X (10_state.md R20). -/
def State.setX (s : State) (v : Word) : State := { s with x := v }
/-- Write Y (10_state.md R20). -/
def State.setY (s : State) (v : Word) : State := { s with y := v }
/-- Write SP (10_state.md R24). -/
def State.setSp (s : State) (v : Word) : State := { s with sp := v }
/-- Write the condition codes as they are, without the X rule (an operation's own flags; exception entry). -/
def State.setCcr (s : State) (v : Byte) : State := { s with ccr := v }
/-- Write IPL (10_state.md R28). -/
def State.setIpl (s : State) (v : BitVec 3) : State := { s with ipl := v }
/-- Write TMP1 (10_state.md R36). -/
def State.setTmp1 (s : State) (v : Word) : State := { s with tmp1 := v }
/-- Write TMP2 (10_state.md R36). -/
def State.setTmp2 (s : State) (v : Word) : State := { s with tmp2 := v }
/-- Write TMP3 (10_state.md R36). -/
def State.setTmp3 (s : State) (v : Word) : State := { s with tmp3 := v }
/-- Write PPAGE over the CPU's own path to it (10_state.md R37). -/
def State.setPpage (s : State) (v : Byte) : State := { s with ppage := v }
/-- Write the run state (10_state.md R41). -/
def State.setRun (s : State) (v : RunState) : State := { s with run := v }

/-- D is A:B (10_state.md R21). -/
def State.d (s : State) : Word := wordOf s.a s.b

/-- Writing D writes A and B (10_state.md R21). -/
def State.setD (s : State) (v : Word) : State := (s.setA (hiByte v)).setB (loByte v)

/-- CCRH: five hard-wired zeros and IPL (10_state.md R27; log 40). -/
def State.ccrh (s : State) : Byte := 0#5 ++ s.ipl

/-- CCRW is CCRH:CCR (10_state.md R22). -/
def State.ccrw (s : State) : Word := wordOf s.ccrh s.ccr

/-! ## Memory (20_memory.md R62) -/

/-- An address in the program page window $8000 to $BFFF (20_memory.md R69). -/
def inWindow (a : Word) : Bool := a.extractLsb' 14 2 == 2#2

/-- The register that a device maps at a logical address (10_state.md R37 to R40; 92 D9, D20). -/
def Device.registerAt (dev : Device) (a : Word) : Option PageReg :=
  if dev.ppageAddr = some a then some .ppage
  else if dev.gpageAddr = some a then some .gpage
  else if dev.directAddr = some a then some .direct
  else if dev.vbAddr = some a then some .vb
  else none

/-- What a list of regions has at a physical address; RAM where it says nothing (log 12). -/
def regionKind (regions : List Region) (k : Nat) : RegionKind :=
  match regions with
  | [] => .ram
  | r :: rest => if r.first ≤ k ∧ k ≤ r.last then r.kind else regionKind rest k

/-- The physical address of a logical one: page memory PPAGE:a[13:0] through the window of a device with expanded
memory (20_memory.md R69), the address itself elsewhere.  Log 11. -/
def State.logicalKey (s : State) (a : Word) : Nat :=
  if s.device.expanded && inWindow a then 0x10000 + s.ppage.toNat * 0x4000 + a.toNat % 0x4000 else a.toNat

/-- The physical address of GPAGE:EA (20_memory.md R72).  Log 11. -/
def State.globalKey (s : State) (ea : Word) : Nat := 0x800000 + s.gpage.toNat * 0x10000 + ea.toNat

/-- What a device register that holds `content` reads as; `unspecified` gives the bits the device changes by itself
(92 D10; log 47). -/
def RegisterBehaviour.read (b : RegisterBehaviour) (content unspecified : Byte) : Byte :=
  if b.volatile = 0#8 then content ||| b.ones
  else ((content ||| b.ones) &&& ~~~b.volatile) ||| (unspecified &&& b.volatile)

/-- What a device register that holds `content` holds after a store of `v` (92 D10; log 47). -/
def RegisterBehaviour.written (b : RegisterBehaviour) (content v : Byte) : Byte :=
  (v &&& b.stored) ||| (content &&& ~~~b.stored &&& ~~~(b.clears &&& v))

/-- The byte at a physical address; an unimplemented one reads as an unspecified value, a device register by its
behaviour (92 D10; logs 13, 47). -/
def State.readKey (s : State) (k : Nat) : Byte :=
  match regionKind s.device.regions k with
  | .unimplemented => Config.openBus s.free k
  | .register b => b.read (Memory.read s.mem k) (Config.openBus s.free k)
  | .ram | .rom => Memory.read s.mem k

/-- Store to a physical address: RAM keeps it, a device register treats it by its behaviour, ROM and an unimplemented
address ignore it (92 D10; logs 13, 47). -/
def State.writeKey (s : State) (k : Nat) (v : Byte) : State :=
  match regionKind s.device.regions k with
  | .ram => { s with mem := Memory.write s.mem k v }
  | .register b => { s with mem := Memory.write s.mem k (b.written (Memory.read s.mem k) v) }
  | .rom | .unimplemented => s

/-- The content of a register that memory shows (10_state.md R37 to R40).  Bit 7 of the byte that shows the seven bits of
GPAGE reads as 0: DESIGN CHOICE, log 50. -/
def State.pageReg (s : State) : PageReg → Byte
  | .ppage => s.ppage
  | .gpage => 0#1 ++ s.gpage
  | .direct => s.direct
  | .vb => s.vb

/-- The addresses of the eight bytes that follow the current instruction (20_memory.md R77). -/
def State.nextBytes (s : State) : List Word := (List.range 8).map fun n => s.pc + BitVec.ofNat 16 n

/-- A store to PPAGE by an instruction inside the window makes the bytes that follow it a refusal case
(92 D14 case 2; log 15). -/
def State.windowStale (s : State) : List Word :=
  if s.device.expanded && inWindow (s.pc - 1) then s.nextBytes.filter inWindow else []

/-- An ordinary store to a register of another module (70_reset_and_hazards.md R903, R912).  Bit 7 of a byte stored to
GPAGE is dropped: DESIGN CHOICE, log 50. -/
def State.setPageReg (s : State) (r : PageReg) (v : Byte) : State :=
  match r with
  | .ppage => { s with ppage := v, stale := s.windowStale ++ s.stale }
  | .gpage => { s with gpage := v.extractLsb' 0 7 }
  | .direct => { s with direct := v }
  | .vb => { s with vb := v }

/-- Note a store to one of the eight bytes after the storing instruction (20_memory.md R77, 92 D14; log 15).  A store
beyond them is seen by every later fetch, with or without a change of flow in between: DESIGN CHOICE, log 51. -/
def State.noteStore (s : State) (a : Word) : State :=
  if (a - s.pc).toNat < 8 && !s.stale.contains a then { s with stale := a :: s.stale } else s

/-- `MemRead(a, 1)` (20_memory.md R62). -/
def State.readByte (s : State) (a : Word) : Byte :=
  match s.device.registerAt a with
  | some r => s.pageReg r
  | none => s.readKey (s.logicalKey a)

/-- `MemWrite(a, 1, v)` (20_memory.md R62). -/
def State.writeByte (s : State) (a : Word) (v : Byte) : State :=
  match s.device.registerAt a with
  | some r => (s.setPageReg r v).noteStore a
  | none => (s.writeKey (s.logicalKey a) v).noteStore a

/-- `MemRead(a, 2)`: high byte at the lower address, which wraps (20_memory.md R61, R62). -/
def State.readWord (s : State) (a : Word) : Word := wordOf (s.readByte a) (s.readByte (a + 1))

/-- `MemWrite(a, 2, v)`: two byte accesses, ascending (20_memory.md R62, R66; log 14).  A first byte stored to a mapped
PPAGE acts on the second: DESIGN CHOICE, log 52. -/
def State.writeWord (s : State) (a : Word) (v : Word) : State :=
  (s.writeByte a (hiByte v)).writeByte (a + 1) (loByte v)

/-- `GMemRead(EA, 1)` (20_memory.md R72). -/
def State.globalReadByte (s : State) (ea : Word) : Byte := s.readKey (s.globalKey ea)

/-- `GMemWrite(EA, 1, v)` (20_memory.md R72). -/
def State.globalWriteByte (s : State) (ea : Word) (v : Byte) : State := s.writeKey (s.globalKey ea) v

/-- `GMemRead(EA, 2)`: no carry into GPAGE (20_memory.md R72, 92 D11). -/
def State.globalReadWord (s : State) (ea : Word) : Word := wordOf (s.globalReadByte ea) (s.globalReadByte (ea + 1))

/-- `GMemWrite(EA, 2, v)`: no carry into GPAGE (20_memory.md R72, 92 D11). -/
def State.globalWriteWord (s : State) (ea : Word) (v : Word) : State :=
  (s.globalWriteByte ea (hiByte v)).globalWriteByte (ea + 1) (loByte v)

/-! ## The stack (20_memory.md R62, 10_state.md R24) -/

/-- `Push8`. -/
def State.pushByte (s : State) (v : Byte) : State := (s.setSp (s.sp - 1)).writeByte (s.sp - 1) v

/-- `Push16`. -/
def State.pushWord (s : State) (v : Word) : State := (s.setSp (s.sp - 2)).writeWord (s.sp - 2) v

/-- The stack pointer after a pull of `n` bytes. -/
def State.drop (s : State) (n : Word) : State := s.setSp (s.sp + n)

/-! ## Free values (92 D6, D12, D24; log 9) -/

/-- The next unspecified word. -/
def State.freeWord (s : State) : Word := Config.freeWord s.free

/-- The free value has been used. -/
def State.useFree (s : State) : State := { s with free := s.free + 1 }

/-- The condition-code bits of the mask hold unspecified values (92 D12; 00_scope.md R10 '?'). -/
def State.freeFlags (s : State) (mask : Byte) : State :=
  (s.setCcr ((s.ccr &&& ~~~mask) ||| (Config.freeByte s.free &&& mask))).useFree

/-! ## Writing the condition codes from data (10_state.md R33, 60_exceptions.md R822) -/

/-- The X write rule: X_new = X_old AND X_value, every other bit from the value (10_state.md R33). -/
def xRule (old value : Byte) : Byte := (value &&& 0xBF#8) ||| (old &&& value &&& 0x40#8)

/-- Write the low byte under the X rule; clearing I delays maskable requests by one instruction (10_state.md R33,
60_exceptions.md R822; log 29). -/
def State.writeCcr (s : State) (v : Byte) : State :=
  { s with ccr := xRule s.ccr v, iDelay := s.ccr.getLsbD 4 && !v.getLsbD 4 }

/-- Write CCRH: only IPL is stored (10_state.md R27). -/
def State.writeCcrh (s : State) (v : Byte) : State := s.setIpl (v.extractLsb' 0 3)

/-- Write CCRW (41_transfer_exchange.md R302). -/
def State.writeCcrw (s : State) (v : Word) : State := (s.writeCcr (loByte v)).writeCcrh (hiByte v)

/-! ## Changes of flow -/

/-- Load PC: the queue is refilled, so every stored byte is seen from here on (20_memory.md R77). -/
def State.jumpTo (s : State) (target : Word) : State := { s with pc := target, stale := [] }

/-! ## Taking an exception (60_exceptions.md R811) -/

/-- The ten-byte frame: RTN, Y, X, B:A and CCRW, pushed in this order (60_exceptions.md R811 steps 2 to 6). -/
def State.pushFrame (s : State) (rtn : Word) : State :=
  ((((s.pushWord rtn).pushWord s.y).pushWord s.x).pushWord (wordOf s.b s.a)).pushWord s.ccrw

/-- The address of a vector (60_exceptions.md R802). -/
def State.vectorAddress (s : State) (offset : Byte) : Word := wordOf s.vb offset

/-- The ten addresses of the frame that ends at `top`. -/
def frameAddresses (top : Word) : List Word := (List.range 10).map fun n => top + BitVec.ofNat 16 n

/-- What an exception does to the masks and to IPL (60_exceptions.md R812, R830). -/
structure Masking where
  /-- XIRQ sets X as well as I (R812). -/
  setsX : Bool
  /-- The level loaded into IPL, or none for "unchanged" (R830). -/
  newIpl : Option (BitVec 3)
  deriving DecidableEq, Repr

/-- SWI and TRAP: I is set, X and IPL stay (60_exceptions.md R812, R830). -/
def Masking.trap : Masking := ⟨false, none⟩

/-- Set I, and X for XIRQ (60_exceptions.md R812); load IPL (R830). -/
def State.mask (s : State) (m : Masking) : State :=
  (s.setCcr (s.ccr ||| (if m.setsX then 0x50#8 else 0x10#8))).setIpl (m.newIpl.getD s.ipl)

/-- Continue at a vector already read: masks, IPL, PC (60_exceptions.md R811 steps 7 and 8, R816). -/
def State.toHandler (s : State) (vec : Word) (m : Masking) : State :=
  { (s.mask m).jumpTo vec with run := .running, iDelay := false }

/-- Taking an exception: the vector is read first, the frame pushed, masks and IPL updated, PC loaded
(60_exceptions.md R811).  Handler bytes inside the frame are a refusal case (92 D14 case 3; logs 15, 44). -/
def State.enter (s : State) (offset : Byte) (rtn : Word) (m : Masking) : State :=
  let vec := s.readWord (s.vectorAddress offset)
  let t := s.pushFrame rtn
  { t.toHandler vec m with stale := (frameAddresses t.sp).filter fun a => (a - vec).toNat < 8 }

/-- Taking an exception whose frame WAI or STOP has already pushed (60_exceptions.md R816). -/
def State.enterFromWait (s : State) (offset : Byte) (m : Masking) : State :=
  s.toHandler (s.readWord (s.vectorAddress offset)) m

/-- Returning from an exception: CCRW, B:A, X, PC and Y, read in this order from the ten bytes at SP, the X bit under its
write rule, no I delay (48_stack_ccr_system.md R787, 90_conflicts.md C28, 60_exceptions.md R822). -/
def State.returnFromInterrupt (s : State) : State :=
  let ccrw := s.readWord s.sp
  let ba := s.readWord (s.sp + 2)
  let x := s.readWord (s.sp + 4)
  let rtn := s.readWord (s.sp + 8)
  let y := s.readWord (s.sp + 6)
  { (s.jumpTo rtn) with
    ccr := xRule s.ccr (loByte ccrw), ipl := (hiByte ccrw).extractLsb' 0 3,
    b := hiByte ba, a := loByte ba, x := x, y := y, sp := s.sp + 10 }

end Sys2Proof.Machine
end

