-- ==== Sys2Proof/Machine/Flags.lean ====
section
/-! DEFINITION. Flag computations: the result and the condition codes of every arithmetic, logic and shift operation, on
any width (42 R350 to R353, 43 R450, 44 R527 to R560, 45 R600, R601, 46 R669). -/

namespace Sys2Proof.Machine

/-- Put one condition-code bit: S 7, X 6, H 5, I 4, N 3, Z 2, V 1, C 0 (10_state.md R26). -/
def putFlag (i : Nat) (v : Bool) (ccr : Byte) : Byte :=
  (ccr &&& ~~~(1#8 <<< i)) ||| (if v then 1#8 <<< i else 0#8)

/-- N and Z from a result (10_state.md R34). -/
def flagsNZ {w : Nat} (r : BitVec w) (ccr : Byte) : Byte :=
  putFlag 3 r.msb (putFlag 2 (r == 0#w) ccr)

/-- N and Z from a result, V as given. -/
def flagsNZV {w : Nat} (r : BitVec w) (v : Bool) (ccr : Byte) : Byte := flagsNZ r (putFlag 1 v ccr)

/-- N and Z from a result, V and C as given. -/
def flagsNZVC {w : Nat} (r : BitVec w) (v c : Bool) (ccr : Byte) : Byte := flagsNZV r v (putFlag 0 c ccr)

/-- Loads, stores and logic: N and Z from the data, V = 0 (40 R200, 43 R450). -/
def logicFlags {w : Nat} (r : BitVec w) (ccr : Byte) : Byte := flagsNZV r false ccr

/-- A carry-in as a number. -/
def carryIn {w : Nat} (c : Bool) : BitVec w := if c then 1#w else 0#w

/-- The sum modulo 2^w (42 R350, R351). -/
def addResult {w : Nat} (x m : BitVec w) (c : Bool) : BitVec w := x + m + carryIn c

/-- Carry from the MSB: the exact sum exceeds the width (42 R350, R351). -/
def addCarry {w : Nat} (x m : BitVec w) (c : Bool) : Bool := decide (2 ^ w ≤ x.toNat + m.toNat + c.toNat)

/-- Carry from bit 3 (42 R350). -/
def halfCarry (x m : Byte) (c : Bool) : Bool := decide (15 < x.toNat % 16 + m.toNat % 16 + c.toNat)

/-- Overflow of an addition: x•m•!R + !x•!m•R on the sign bits (42 R350, R351). -/
def addOverflow {w : Nat} (x m r : BitVec w) : Bool := (x.msb && m.msb && !r.msb) || (!x.msb && !m.msb && r.msb)

/-- `Add8`'s flags H, N, Z, V, C (42 R350). -/
def add8Flags (x m : Byte) (c : Bool) (ccr : Byte) : Byte :=
  let r := addResult x m c
  putFlag 5 (halfCarry x m c) (flagsNZVC r (addOverflow x m r) (addCarry x m c) ccr)

/-- `Add16`'s flags N, Z, V, C (42 R351). -/
def add16Flags (x m : Word) (c : Bool) (ccr : Byte) : Byte :=
  let r := addResult x m c
  flagsNZVC r (addOverflow x m r) (addCarry x m c) ccr

/-- The difference modulo 2^w (42 R352). -/
def subResult {w : Nat} (x m : BitVec w) (c : Bool) : BitVec w := x - m - carryIn c

/-- Borrow: m + c exceeds x (42 R352). -/
def subBorrow {w : Nat} (x m : BitVec w) (c : Bool) : Bool := decide (x.toNat < m.toNat + c.toNat)

/-- Overflow of a subtraction: x•!m•!R + !x•m•R on the sign bits (42 R352). -/
def subOverflow {w : Nat} (x m r : BitVec w) : Bool := (x.msb && !m.msb && !r.msb) || (!x.msb && m.msb && r.msb)

/-- `Sub8`'s and `Sub16`'s flags N, Z, V, C (42 R352). -/
def subFlags {w : Nat} (x m : BitVec w) (c : Bool) (ccr : Byte) : Byte :=
  let r := subResult x m c
  flagsNZVC r (subOverflow x m r) (subBorrow x m c) ccr

/-- The sticky Z of the 16-bit with-carry forms: Z_new = Z_old AND (R = 0), where `new` has the plain Z (42 R353). -/
def stickyZ (old new : Byte) : Byte := putFlag 2 (old.getLsbD 2 && new.getLsbD 2) new

/-- Clear: N = 0, Z = 1, V = 0, C = 0 (44 R521). -/
def clearFlags (ccr : Byte) : Byte := putFlag 3 false (putFlag 2 true (putFlag 1 false (putFlag 0 false ccr)))

/-- Complement: N, Z from R, V = 0, C = 1 (44 R527). -/
def complementFlags {w : Nat} (r : BitVec w) (ccr : Byte) : Byte := flagsNZVC r false true ccr

/-- Negate: V iff R is the most negative number, C iff R is not zero (44 R534). -/
def negateFlags {w : Nat} (r : BitVec w) (ccr : Byte) : Byte :=
  flagsNZVC r (r == BitVec.intMin w) (r != 0#w) ccr

/-- Decrement: V iff the operand was the most negative number; C stays (44 R541). -/
def decrementFlags {w : Nat} (v : BitVec w) (ccr : Byte) : Byte :=
  flagsNZV (v - 1#w) (v == BitVec.intMin w) ccr

/-- Increment: V iff the operand was the most positive number; C stays (44 R551). -/
def incrementFlags {w : Nat} (v : BitVec w) (ccr : Byte) : Byte :=
  flagsNZV (v + 1#w) (v == BitVec.intMax w) ccr

/-- DEX, DEY, INX, INY: Z alone (44 R548). -/
def zeroFlag (r : Word) (ccr : Byte) : Byte := putFlag 2 (r == 0#16) ccr

/-- Test: N, Z from the operand, V = 0, C = 0 (44 R560). -/
def testFlags {w : Nat} (v : BitVec w) (ccr : Byte) : Byte := flagsNZVC v false false ccr

/-- Shifts and rotates: V = N XOR C after the shift (45 R600). -/
def shiftFlags {w : Nat} (r : BitVec w) (c : Bool) (ccr : Byte) : Byte := flagsNZVC r (r.msb != c) c ccr

/-- The result of a left shift that takes `c` into bit 0 (45 R601: ASL with 0, ROL with C). -/
def shiftLeftIn {w : Nat} (v : BitVec w) (c : Bool) : BitVec w := (v <<< 1) ||| carryIn c

/-- The result of a right shift that takes `c` into the MSB (45 R601: LSR with 0, ASR with the MSB, ROR with C). -/
def shiftRightIn {w : Nat} (v : BitVec w) (c : Bool) : BitVec w := (v >>> 1) ||| (carryIn c <<< (w - 1))

/-- The interpolation Y1 + floor(B × (Y2 - Y1) / 256) (46 R669; log 22). -/
def interpolate {w : Nat} (y1 y2 : BitVec w) (b : Byte) : BitVec w :=
  BitVec.ofInt w ((y1.toNat : Int) + ((b.toNat : Int) * ((y2.toNat : Int) - (y1.toNat : Int))) / 256)

/-- Bit 7 of the two's-complement product B × (Y2 - Y1) (46 R669; log 22). -/
def interpolateCarry {w : Nat} (y1 y2 : BitVec w) (b : Byte) : Bool :=
  decide (128 ≤ ((b.toNat : Int) * ((y2.toNat : Int) - (y1.toNat : Int))) % 256)

end Sys2Proof.Machine
end

