-- ==== Sys2Proof/Machine/Operands.lean ====
section
/-! DEFINITION. Operand forms: the effective address of every addressing mode, the index register it updates, and the value
of a source (30_encoding.md R102, 31_indexed_postbyte.md R140 to R162). -/

namespace Sys2Proof.Machine

/-- `base(rr)` (31_indexed_postbyte.md R142); `pcRef` is PCnext but for the moves of 40_load_store_move.md R230. -/
def State.indexReg (s : State) (pcRef : Word) : IdxReg → Word
  | .x => s.x
  | .y => s.y
  | .sp => s.sp
  | .pc => pcRef

/-- The register of an auto-modify operand (31_indexed_postbyte.md R147). -/
def State.autoReg (s : State) : AutoReg → Word
  | .x => s.x
  | .y => s.y
  | .sp => s.sp

/-- Write the register of an auto-modify operand. -/
def State.setAutoReg (s : State) (r : AutoReg) (v : Word) : State :=
  match r with
  | .x => s.setX v
  | .y => s.setY v
  | .sp => s.setSp v

/-- The unsigned accumulator offset (31_indexed_postbyte.md R149). -/
def State.accOffset (s : State) : AccReg → Word
  | .a => zext8 s.a
  | .b => zext8 s.b
  | .d => s.d

/-- The adjustment of nnnn: +1 to +8, or -8 to -1 (31_indexed_postbyte.md R147). -/
def autoAdjust (n : BitVec 4) : Word :=
  if n.getLsbD 3 then n.signExtend 16 else n.zeroExtend 16 + 1

end Sys2Proof.Machine

namespace Sys2Proof

open Sys2Proof.Machine

/-- The effective address (31_indexed_postbyte.md R143 to R151, R162).  Pointers are read from the logical space
(20_memory.md R72). -/
def Idx.addr (i : Idx) (s : State) (pcRef : Word) : Word :=
  match i with
  | .off5 r n => s.indexReg pcRef r + n.signExtend 16
  | .auto r post n => if post then s.autoReg r else s.autoReg r + autoAdjust n
  | .off9 r n => s.indexReg pcRef r + n.signExtend 16
  | .off16 r n => s.indexReg pcRef r + n
  | .ind16 r n => s.readWord (s.indexReg pcRef r + n)
  | .acc r via => s.indexReg pcRef r + s.accOffset via
  | .indD r => s.readWord (s.indexReg pcRef r + s.d)

/-- The index register after the operand's address is formed, which is before the instruction's own operation
(31_indexed_postbyte.md R147, R148; log 24). -/
def Idx.update (i : Idx) (s : State) : State :=
  match i with
  | .auto r _ n => s.setAutoReg r (s.autoReg r + autoAdjust n)
  | .off5 _ _ | .off9 _ _ | .off16 _ _ | .ind16 _ _ | .acc _ _ | .indD _ => s

/-- The pointer of an indirect operand, the address its word is read from (R146, R151); the address itself of a direct
one. -/
def Idx.pointer (i : Idx) (s : State) (pcRef : Word) : Word :=
  match i with
  | .ind16 r n => s.indexReg pcRef r + n
  | .indD r => s.indexReg pcRef r + s.d
  | .off5 _ _ | .auto _ _ _ | .off9 _ _ | .off16 _ _ | .acc _ _ => i.addr s pcRef

/-- The effective address of a memory operand: DIRECT:dd, hh:ll or indexed (30_encoding.md R102, 20_memory.md R70). -/
def Ea.addr (e : Ea) (s : State) : Word :=
  match e with
  | .dir dd => wordOf s.direct dd
  | .ext w => w
  | .idx i => i.addr s s.pc

/-- The state after a memory operand's address is formed. -/
def Ea.update (e : Ea) (s : State) : State :=
  match e with
  | .dir _ | .ext _ => s
  | .idx i => i.update s

/-- The effective address of an extended or indexed operand, PC-relative to `pcRef`. -/
def Xea.addr (e : Xea) (s : State) (pcRef : Word) : Word :=
  match e with
  | .ext w => w
  | .idx i => i.addr s pcRef

/-- The state after an extended or indexed operand's address is formed. -/
def Xea.update (e : Xea) (s : State) : State :=
  match e with
  | .ext _ => s
  | .idx i => i.update s

/-- The value of an 8-bit source: ii, or the byte at EA (30_encoding.md R103). -/
def Src8.value (o : Src8) (s : State) : Byte :=
  match o with
  | .imm v => v
  | .mem e => s.readByte (e.addr s)

/-- The state after an 8-bit source is read. -/
def Src8.update (o : Src8) (s : State) : State :=
  match o with
  | .imm _ => s
  | .mem e => e.update s

/-- The value of a 16-bit source: jj:kk, or the word at EA (30_encoding.md R103). -/
def Src16.value (o : Src16) (s : State) : Word :=
  match o with
  | .imm v => v
  | .mem e => s.readWord (e.addr s)

/-- The state after a 16-bit source is read. -/
def Src16.update (o : Src16) (s : State) : State :=
  match o with
  | .imm _ => s
  | .mem e => e.update s

/-- How many extension bytes the destination's postbyte has: the `k` of 40_load_store_move.md R230 (log 25). -/
def Xea.extensionBytes : Xea → Word
  | .ext _ => 0
  | .idx (.off9 _ _) => 1
  | .idx (.off16 _ _) | .idx (.ind16 _ _) => 2
  | .idx (.off5 _ _) | .idx (.auto _ _ _) | .idx (.acc _ _) | .idx (.indD _) => 0

/-- The reference point of a PC-relative move source (40_load_store_move.md R230). -/
def Xea.moveRef (dst : Xea) (s : State) : Word := s.pc - dst.extensionBytes

/-- The value of a MOVB source whose destination is `dst` (40_load_store_move.md R229, R230). -/
def MoveSrc8.value (o : MoveSrc8) (dst : Xea) (s : State) : Byte :=
  match o with
  | .imm v => v
  | .mem e => s.readByte (e.addr s (dst.moveRef s))

/-- The state after a MOVB source is read (40_load_store_move.md R229). -/
def MoveSrc8.update (o : MoveSrc8) (s : State) : State :=
  match o with
  | .imm _ => s
  | .mem e => e.update s

/-- The value of a MOVW source whose destination is `dst` (40_load_store_move.md R229, R230). -/
def MoveSrc16.value (o : MoveSrc16) (dst : Xea) (s : State) : Word :=
  match o with
  | .imm v => v
  | .mem e => s.readWord (e.addr s (dst.moveRef s))

/-- The state after a MOVW source is read (40_load_store_move.md R229). -/
def MoveSrc16.update (o : MoveSrc16) (s : State) : State :=
  match o with
  | .imm _ => s
  | .mem e => e.update s

end Sys2Proof
end

