-- ==== Sys2Proof/Machine/AddSub.lean ====
section
/-! DEFINITION. Addition, subtraction, compare and decimal adjust (42_add_sub_compare.md). -/

namespace Sys2Proof.Machine

/-- An 8-bit operation of a register and a source: `op` takes the register, the operand and the condition codes, and
gives the result and the new condition codes (42_add_sub_compare.md, 43_logic_bit.md). -/
def binary8 (get : State → Byte) (set : State → Byte → State) (op : Byte → Byte → Byte → Byte × Byte) (src : Src8)
    (s : State) : State :=
  let t := src.update s
  let r := op (get t) (src.value s) t.ccr
  (set t r.1).setCcr r.2

/-- A 16-bit operation of a register and a source. -/
def binary16 (get : State → Word) (set : State → Word → State) (op : Word → Word → Byte → Word × Byte) (src : Src16)
    (s : State) : State :=
  let t := src.update s
  let r := op (get t) (src.value s) t.ccr
  (set t r.1).setCcr r.2

/-- An 8-bit operation whose result is discarded (42 R376, 43 R455). -/
def compare8 (get : State → Byte) (op : Byte → Byte → Byte → Byte × Byte) (src : Src8) (s : State) : State :=
  let t := src.update s
  t.setCcr (op (get t) (src.value s) t.ccr).2

/-- A 16-bit operation whose result is discarded (42 R376, 43 R457). -/
def compare16 (get : State → Word) (op : Word → Word → Byte → Word × Byte) (src : Src16) (s : State) : State :=
  let t := src.update s
  t.setCcr (op (get t) (src.value s) t.ccr).2

/-- Add8 without carry (42 R350). -/
def add8 (x m ccr : Byte) : Byte × Byte := (addResult x m false, add8Flags x m false ccr)

/-- Add8 with the old C (42 R350). -/
def adc8 (x m ccr : Byte) : Byte × Byte := (addResult x m (ccr.getLsbD 0), add8Flags x m (ccr.getLsbD 0) ccr)

/-- Add16 without carry (42 R351). -/
def add16 (x m : Word) (ccr : Byte) : Word × Byte := (addResult x m false, add16Flags x m false ccr)

/-- Add16 with the old C and the sticky Z (42 R351, R353). -/
def ade16 (x m : Word) (ccr : Byte) : Word × Byte :=
  (addResult x m (ccr.getLsbD 0), stickyZ ccr (add16Flags x m (ccr.getLsbD 0) ccr))

/-- Sub8 without borrow (42 R352). -/
def sub8 (x m ccr : Byte) : Byte × Byte := (subResult x m false, subFlags x m false ccr)

/-- Sub8 with the old C (42 R352). -/
def sbc8 (x m ccr : Byte) : Byte × Byte := (subResult x m (ccr.getLsbD 0), subFlags x m (ccr.getLsbD 0) ccr)

/-- Sub16 without borrow (42 R352). -/
def sub16 (x m : Word) (ccr : Byte) : Word × Byte := (subResult x m false, subFlags x m false ccr)

/-- Sub16 with the old C and the sticky Z (42 R352, R353). -/
def sbe16 (x m : Word) (ccr : Byte) : Word × Byte :=
  (subResult x m (ccr.getLsbD 0), stickyZ ccr (subFlags x m (ccr.getLsbD 0) ccr))

/-- ABA (42_add_sub_compare.md R354). -/
def execAba (s : State) : Host.Outcome State Fault Refusal :=
  .next ((s.setA (add8 s.a s.b s.ccr).1).setCcr (add8 s.a s.b s.ccr).2)

/-- ADCA (42_add_sub_compare.md R355). -/
def execAdca (src : Src8) (s : State) : Host.Outcome State Fault Refusal :=
  .next (binary8 State.a State.setA adc8 src s)

/-- ADCB (42_add_sub_compare.md R356). -/
def execAdcb (src : Src8) (s : State) : Host.Outcome State Fault Refusal :=
  .next (binary8 State.b State.setB adc8 src s)

/-- ADDA (42_add_sub_compare.md R357). -/
def execAdda (src : Src8) (s : State) : Host.Outcome State Fault Refusal :=
  .next (binary8 State.a State.setA add8 src s)

/-- ADDB (42_add_sub_compare.md R358). -/
def execAddb (src : Src8) (s : State) : Host.Outcome State Fault Refusal :=
  .next (binary8 State.b State.setB add8 src s)

/-- ADDD (42_add_sub_compare.md R359). -/
def execAddd (src : Src16) (s : State) : Host.Outcome State Fault Refusal :=
  .next (binary16 State.d State.setD add16 src s)

/-- ADDX (42_add_sub_compare.md R360). -/
def execAddx (src : Src16) (s : State) : Host.Outcome State Fault Refusal :=
  .next (binary16 State.x State.setX add16 src s)

/-- ADDY (42_add_sub_compare.md R361). -/
def execAddy (src : Src16) (s : State) : Host.Outcome State Fault Refusal :=
  .next (binary16 State.y State.setY add16 src s)

/-- ADED (42_add_sub_compare.md R362). -/
def execAded (src : Src16) (s : State) : Host.Outcome State Fault Refusal :=
  .next (binary16 State.d State.setD ade16 src s)

/-- ADEX (42_add_sub_compare.md R363). -/
def execAdex (src : Src16) (s : State) : Host.Outcome State Fault Refusal :=
  .next (binary16 State.x State.setX ade16 src s)

/-- ADEY (42_add_sub_compare.md R364). -/
def execAdey (src : Src16) (s : State) : Host.Outcome State Fault Refusal :=
  .next (binary16 State.y State.setY ade16 src s)

/-- SBA (42_add_sub_compare.md R365). -/
def execSba (s : State) : Host.Outcome State Fault Refusal :=
  .next ((s.setA (sub8 s.a s.b s.ccr).1).setCcr (sub8 s.a s.b s.ccr).2)

/-- SBCA (42_add_sub_compare.md R366). -/
def execSbca (src : Src8) (s : State) : Host.Outcome State Fault Refusal :=
  .next (binary8 State.a State.setA sbc8 src s)

/-- SBCB (42_add_sub_compare.md R367). -/
def execSbcb (src : Src8) (s : State) : Host.Outcome State Fault Refusal :=
  .next (binary8 State.b State.setB sbc8 src s)

/-- SUBA (42_add_sub_compare.md R368). -/
def execSuba (src : Src8) (s : State) : Host.Outcome State Fault Refusal :=
  .next (binary8 State.a State.setA sub8 src s)

/-- SUBB (42_add_sub_compare.md R369). -/
def execSubb (src : Src8) (s : State) : Host.Outcome State Fault Refusal :=
  .next (binary8 State.b State.setB sub8 src s)

/-- SUBD (42_add_sub_compare.md R370). -/
def execSubd (src : Src16) (s : State) : Host.Outcome State Fault Refusal :=
  .next (binary16 State.d State.setD sub16 src s)

/-- SUBX (42_add_sub_compare.md R371). -/
def execSubx (src : Src16) (s : State) : Host.Outcome State Fault Refusal :=
  .next (binary16 State.x State.setX sub16 src s)

/-- SUBY (42_add_sub_compare.md R372). -/
def execSuby (src : Src16) (s : State) : Host.Outcome State Fault Refusal :=
  .next (binary16 State.y State.setY sub16 src s)

/-- SBED (42_add_sub_compare.md R373). -/
def execSbed (src : Src16) (s : State) : Host.Outcome State Fault Refusal :=
  .next (binary16 State.d State.setD sbe16 src s)

/-- SBEX (42_add_sub_compare.md R374). -/
def execSbex (src : Src16) (s : State) : Host.Outcome State Fault Refusal :=
  .next (binary16 State.x State.setX sbe16 src s)

/-- SBEY (42_add_sub_compare.md R375). -/
def execSbey (src : Src16) (s : State) : Host.Outcome State Fault Refusal :=
  .next (binary16 State.y State.setY sbe16 src s)

/-- CBA (42_add_sub_compare.md R377). -/
def execCba (s : State) : Host.Outcome State Fault Refusal := .next (s.setCcr (sub8 s.a s.b s.ccr).2)

/-- CMPA (42_add_sub_compare.md R378). -/
def execCmpa (src : Src8) (s : State) : Host.Outcome State Fault Refusal := .next (compare8 State.a sub8 src s)

/-- CMPB (42_add_sub_compare.md R379). -/
def execCmpb (src : Src8) (s : State) : Host.Outcome State Fault Refusal := .next (compare8 State.b sub8 src s)

/-- CPD (42_add_sub_compare.md R380). -/
def execCpd (src : Src16) (s : State) : Host.Outcome State Fault Refusal := .next (compare16 State.d sub16 src s)

/-- CPS (42_add_sub_compare.md R381). -/
def execCps (src : Src16) (s : State) : Host.Outcome State Fault Refusal := .next (compare16 State.sp sub16 src s)

/-- CPX (42_add_sub_compare.md R382). -/
def execCpx (src : Src16) (s : State) : Host.Outcome State Fault Refusal := .next (compare16 State.x sub16 src s)

/-- CPY (42_add_sub_compare.md R383). -/
def execCpy (src : Src16) (s : State) : Host.Outcome State Fault Refusal := .next (compare16 State.y sub16 src s)

/-- CPED (42_add_sub_compare.md R384). -/
def execCped (src : Src16) (s : State) : Host.Outcome State Fault Refusal := .next (compare16 State.d sbe16 src s)

/-- CPES (42_add_sub_compare.md R385). -/
def execCpes (src : Src16) (s : State) : Host.Outcome State Fault Refusal := .next (compare16 State.sp sbe16 src s)

/-- CPEX (42_add_sub_compare.md R386). -/
def execCpex (src : Src16) (s : State) : Host.Outcome State Fault Refusal := .next (compare16 State.x sbe16 src s)

/-- CPEY (42_add_sub_compare.md R388). -/
def execCpey (src : Src16) (s : State) : Host.Outcome State Fault Refusal := .next (compare16 State.y sbe16 src s)

/-- DAA's low correction: H = 1 or A[3:0] > 9 (42_add_sub_compare.md R387). -/
def daaLow (x ccr : Byte) : Bool := ccr.getLsbD 5 || decide (9 < x.toNat % 16)

/-- DAA's high correction, the corrected carry: C = 1 or A > $99 (42_add_sub_compare.md R387; log 23). -/
def daaHigh (x ccr : Byte) : Bool :=
  ccr.getLsbD 0 || decide (9 < x.toNat / 16) || (decide (x.toNat / 16 = 9) && decide (9 < x.toNat % 16))

/-- DAA's correction factor (42_add_sub_compare.md R387). -/
def daaFactor (x ccr : Byte) : Byte :=
  (if daaHigh x ccr then 0x60#8 else 0x00#8) + (if daaLow x ccr then 0x06#8 else 0x00#8)

/-- DAA (42_add_sub_compare.md R387): V is a free value (log 19). -/
def execDaa (s : State) : Host.Outcome State Fault Refusal :=
  let r := s.a + daaFactor s.a s.ccr
  .next (((s.setA r).setCcr (putFlag 0 (daaHigh s.a s.ccr) (flagsNZ r s.ccr))).freeFlags 0x02)

end Sys2Proof.Machine
end

