-- ==== Sys2Proof/Machine/Branch.lean ====
section
/-! DEFINITION. Branches, loop primitives, jumps and subroutines (47_branch_loop_jump.md). -/

namespace Sys2Proof.Machine

/-- The fourteen branch conditions over the condition codes, and always and never (47_branch_loop_jump.md R702). -/
inductive Cond where
  | always | never | hi | ls | cc | cs | ne | eq | vc | vs | pl | mi | ge | lt | gt | le
  deriving DecidableEq, Repr

/-- A branch condition holds: N, Z, V, C are bits 3, 2, 1, 0 (47_branch_loop_jump.md R702). -/
def Cond.holds (k : Cond) (ccr : Byte) : Bool :=
  let n := ccr.getLsbD 3
  let z := ccr.getLsbD 2
  let v := ccr.getLsbD 1
  let c := ccr.getLsbD 0
  match k with
  | .always => true
  | .never => false
  | .hi => !(c || z)
  | .ls => c || z
  | .cc => !c
  | .cs => c
  | .ne => !z
  | .eq => z
  | .vc => !v
  | .vs => v
  | .pl => !n
  | .mi => n
  | .ge => !(n ^^ v)
  | .lt => n ^^ v
  | .gt => !(z || (n ^^ v))
  | .le => z || (n ^^ v)

/-- Go to the target if the condition holds; PC is PCnext (47 R700, R701). -/
def State.branchIf (s : State) (taken : Bool) (target : Word) : State := if taken then s.jumpTo target else s

/-- BCC (47_branch_loop_jump.md R703). -/
def execBcc (rel : Byte) (s : State) : Host.Outcome State Fault Refusal :=
  .next (s.branchIf (Cond.holds .cc s.ccr) (s.pc + sext8 rel))

/-- BCS (47_branch_loop_jump.md R704). -/
def execBcs (rel : Byte) (s : State) : Host.Outcome State Fault Refusal :=
  .next (s.branchIf (Cond.holds .cs s.ccr) (s.pc + sext8 rel))

/-- BEQ (47_branch_loop_jump.md R705). -/
def execBeq (rel : Byte) (s : State) : Host.Outcome State Fault Refusal :=
  .next (s.branchIf (Cond.holds .eq s.ccr) (s.pc + sext8 rel))

/-- BGE (47_branch_loop_jump.md R706). -/
def execBge (rel : Byte) (s : State) : Host.Outcome State Fault Refusal :=
  .next (s.branchIf (Cond.holds .ge s.ccr) (s.pc + sext8 rel))

/-- BGT (47_branch_loop_jump.md R707). -/
def execBgt (rel : Byte) (s : State) : Host.Outcome State Fault Refusal :=
  .next (s.branchIf (Cond.holds .gt s.ccr) (s.pc + sext8 rel))

/-- BHI (47_branch_loop_jump.md R708). -/
def execBhi (rel : Byte) (s : State) : Host.Outcome State Fault Refusal :=
  .next (s.branchIf (Cond.holds .hi s.ccr) (s.pc + sext8 rel))

/-- BHS (47_branch_loop_jump.md R709), the assembler's name for a BCC (30 R111). -/
def execBhs (rel : Byte) (s : State) : Host.Outcome State Fault Refusal :=
  .next (s.branchIf (Cond.holds .cc s.ccr) (s.pc + sext8 rel))

/-- BLE (47_branch_loop_jump.md R710). -/
def execBle (rel : Byte) (s : State) : Host.Outcome State Fault Refusal :=
  .next (s.branchIf (Cond.holds .le s.ccr) (s.pc + sext8 rel))

/-- BLO (47_branch_loop_jump.md R711), the assembler's name for a BCS (30 R111). -/
def execBlo (rel : Byte) (s : State) : Host.Outcome State Fault Refusal :=
  .next (s.branchIf (Cond.holds .cs s.ccr) (s.pc + sext8 rel))

/-- BLS (47_branch_loop_jump.md R712). -/
def execBls (rel : Byte) (s : State) : Host.Outcome State Fault Refusal :=
  .next (s.branchIf (Cond.holds .ls s.ccr) (s.pc + sext8 rel))

/-- BLT (47_branch_loop_jump.md R713). -/
def execBlt (rel : Byte) (s : State) : Host.Outcome State Fault Refusal :=
  .next (s.branchIf (Cond.holds .lt s.ccr) (s.pc + sext8 rel))

/-- BMI (47_branch_loop_jump.md R714). -/
def execBmi (rel : Byte) (s : State) : Host.Outcome State Fault Refusal :=
  .next (s.branchIf (Cond.holds .mi s.ccr) (s.pc + sext8 rel))

/-- BNE (47_branch_loop_jump.md R715). -/
def execBne (rel : Byte) (s : State) : Host.Outcome State Fault Refusal :=
  .next (s.branchIf (Cond.holds .ne s.ccr) (s.pc + sext8 rel))

/-- BPL (47_branch_loop_jump.md R716). -/
def execBpl (rel : Byte) (s : State) : Host.Outcome State Fault Refusal :=
  .next (s.branchIf (Cond.holds .pl s.ccr) (s.pc + sext8 rel))

/-- BRA (47_branch_loop_jump.md R717). -/
def execBra (rel : Byte) (s : State) : Host.Outcome State Fault Refusal :=
  .next (s.branchIf (Cond.holds .always s.ccr) (s.pc + sext8 rel))

/-- BRN (47_branch_loop_jump.md R718). -/
def execBrn (rel : Byte) (s : State) : Host.Outcome State Fault Refusal :=
  .next (s.branchIf (Cond.holds .never s.ccr) (s.pc + sext8 rel))

/-- BVC (47_branch_loop_jump.md R719). -/
def execBvc (rel : Byte) (s : State) : Host.Outcome State Fault Refusal :=
  .next (s.branchIf (Cond.holds .vc s.ccr) (s.pc + sext8 rel))

/-- BVS (47_branch_loop_jump.md R720). -/
def execBvs (rel : Byte) (s : State) : Host.Outcome State Fault Refusal :=
  .next (s.branchIf (Cond.holds .vs s.ccr) (s.pc + sext8 rel))

/-- LBCC (47_branch_loop_jump.md R721). -/
def execLbcc (rel : Word) (s : State) : Host.Outcome State Fault Refusal :=
  .next (s.branchIf (Cond.holds .cc s.ccr) (s.pc + rel))

/-- LBCS (47_branch_loop_jump.md R722). -/
def execLbcs (rel : Word) (s : State) : Host.Outcome State Fault Refusal :=
  .next (s.branchIf (Cond.holds .cs s.ccr) (s.pc + rel))

/-- LBEQ (47_branch_loop_jump.md R723). -/
def execLbeq (rel : Word) (s : State) : Host.Outcome State Fault Refusal :=
  .next (s.branchIf (Cond.holds .eq s.ccr) (s.pc + rel))

/-- LBGE (47_branch_loop_jump.md R724). -/
def execLbge (rel : Word) (s : State) : Host.Outcome State Fault Refusal :=
  .next (s.branchIf (Cond.holds .ge s.ccr) (s.pc + rel))

/-- LBGT (47_branch_loop_jump.md R725). -/
def execLbgt (rel : Word) (s : State) : Host.Outcome State Fault Refusal :=
  .next (s.branchIf (Cond.holds .gt s.ccr) (s.pc + rel))

/-- LBHI (47_branch_loop_jump.md R726). -/
def execLbhi (rel : Word) (s : State) : Host.Outcome State Fault Refusal :=
  .next (s.branchIf (Cond.holds .hi s.ccr) (s.pc + rel))

/-- LBHS (47_branch_loop_jump.md R727), the assembler's name for a LBCC (30 R111). -/
def execLbhs (rel : Word) (s : State) : Host.Outcome State Fault Refusal :=
  .next (s.branchIf (Cond.holds .cc s.ccr) (s.pc + rel))

/-- LBLE (47_branch_loop_jump.md R728). -/
def execLble (rel : Word) (s : State) : Host.Outcome State Fault Refusal :=
  .next (s.branchIf (Cond.holds .le s.ccr) (s.pc + rel))

/-- LBLO (47_branch_loop_jump.md R729), the assembler's name for a LBCS (30 R111). -/
def execLblo (rel : Word) (s : State) : Host.Outcome State Fault Refusal :=
  .next (s.branchIf (Cond.holds .cs s.ccr) (s.pc + rel))

/-- LBLS (47_branch_loop_jump.md R730). -/
def execLbls (rel : Word) (s : State) : Host.Outcome State Fault Refusal :=
  .next (s.branchIf (Cond.holds .ls s.ccr) (s.pc + rel))

/-- LBLT (47_branch_loop_jump.md R731). -/
def execLblt (rel : Word) (s : State) : Host.Outcome State Fault Refusal :=
  .next (s.branchIf (Cond.holds .lt s.ccr) (s.pc + rel))

/-- LBMI (47_branch_loop_jump.md R732). -/
def execLbmi (rel : Word) (s : State) : Host.Outcome State Fault Refusal :=
  .next (s.branchIf (Cond.holds .mi s.ccr) (s.pc + rel))

/-- LBNE (47_branch_loop_jump.md R733). -/
def execLbne (rel : Word) (s : State) : Host.Outcome State Fault Refusal :=
  .next (s.branchIf (Cond.holds .ne s.ccr) (s.pc + rel))

/-- LBPL (47_branch_loop_jump.md R734). -/
def execLbpl (rel : Word) (s : State) : Host.Outcome State Fault Refusal :=
  .next (s.branchIf (Cond.holds .pl s.ccr) (s.pc + rel))

/-- LBRA (47_branch_loop_jump.md R735). -/
def execLbra (rel : Word) (s : State) : Host.Outcome State Fault Refusal :=
  .next (s.branchIf (Cond.holds .always s.ccr) (s.pc + rel))

/-- LBRN (47_branch_loop_jump.md R736). -/
def execLbrn (rel : Word) (s : State) : Host.Outcome State Fault Refusal :=
  .next (s.branchIf (Cond.holds .never s.ccr) (s.pc + rel))

/-- LBVC (47_branch_loop_jump.md R737). -/
def execLbvc (rel : Word) (s : State) : Host.Outcome State Fault Refusal :=
  .next (s.branchIf (Cond.holds .vc s.ccr) (s.pc + rel))

/-- LBVS (47_branch_loop_jump.md R738). -/
def execLbvs (rel : Word) (s : State) : Host.Outcome State Fault Refusal :=
  .next (s.branchIf (Cond.holds .vs s.ccr) (s.pc + rel))

/-- Branch on bits of a byte: the index register is updated whether or not the branch is taken; an indirect operand is no
form of the instruction (47 R739, R740, 31 R160; log 26). -/
def branchOnBits (test : Byte → Bool) (ea : Ea) (rel : Byte) (s : State) : Host.Outcome State Fault Refusal :=
  if ea.isDirect then
    .next ((ea.update s).branchIf (test (s.readByte (ea.addr s))) (s.pc + sext8 rel))
  else .refused .reservedForm

/-- BRCLR (47_branch_loop_jump.md R739). -/
def execBrclr (ea : Ea) (mask : Byte) (rel : Byte) (s : State) : Host.Outcome State Fault Refusal :=
  branchOnBits (fun m => m &&& mask == 0#8) ea rel s

/-- BRSET (47_branch_loop_jump.md R740). -/
def execBrset (ea : Ea) (mask : Byte) (rel : Byte) (s : State) : Host.Outcome State Fault Refusal :=
  branchOnBits (fun m => ~~~m &&& mask == 0#8) ea rel s

/-- Add to a loop counter, an 8-bit or a 16-bit register, each modulo its width (47 R741). -/
def State.addCounter (s : State) (c : Ctr) (delta : Int) : State :=
  match c with
  | .a => s.setA (s.a + BitVec.ofInt 8 delta)
  | .b => s.setB (s.b + BitVec.ofInt 8 delta)
  | .d => s.setD (s.d + BitVec.ofInt 16 delta)
  | .x => s.setX (s.x + BitVec.ofInt 16 delta)
  | .y => s.setY (s.y + BitVec.ofInt 16 delta)
  | .sp => s.setSp (s.sp + BitVec.ofInt 16 delta)

/-- The loop counter is zero (47 R741). -/
def State.counterZero (s : State) (c : Ctr) : Bool :=
  match c with
  | .a => s.a == 0#8
  | .b => s.b == 0#8
  | .d => s.d == 0#16
  | .x => s.x == 0#16
  | .y => s.y == 0#16
  | .sp => s.sp == 0#16

/-- A loop primitive: change the counter, test the new value, branch by the 9-bit offset (47 R741). -/
def loopOn (delta : Int) (whenZero : Bool) (ctr : Ctr) (rel : BitVec 9) (s : State) : State :=
  let t := s.addCounter ctr delta
  t.branchIf (t.counterZero ctr == whenZero) (s.pc + rel.signExtend 16)

/-- DBEQ (47_branch_loop_jump.md R742). -/
def execDbeq (ctr : Ctr) (rel : BitVec 9) (s : State) : Host.Outcome State Fault Refusal :=
  .next (loopOn (-1) true ctr rel s)

/-- DBNE (47_branch_loop_jump.md R743). -/
def execDbne (ctr : Ctr) (rel : BitVec 9) (s : State) : Host.Outcome State Fault Refusal :=
  .next (loopOn (-1) false ctr rel s)

/-- IBEQ (47_branch_loop_jump.md R744). -/
def execIbeq (ctr : Ctr) (rel : BitVec 9) (s : State) : Host.Outcome State Fault Refusal :=
  .next (loopOn 1 true ctr rel s)

/-- IBNE (47_branch_loop_jump.md R746). -/
def execIbne (ctr : Ctr) (rel : BitVec 9) (s : State) : Host.Outcome State Fault Refusal :=
  .next (loopOn 1 false ctr rel s)

/-- TBEQ (47_branch_loop_jump.md R747). -/
def execTbeq (ctr : Ctr) (rel : BitVec 9) (s : State) : Host.Outcome State Fault Refusal :=
  .next (loopOn 0 true ctr rel s)

/-- TBNE (47_branch_loop_jump.md R748). -/
def execTbne (ctr : Ctr) (rel : BitVec 9) (s : State) : Host.Outcome State Fault Refusal :=
  .next (loopOn 0 false ctr rel s)

/-- JMP (47_branch_loop_jump.md R749). -/
def execJmp (target : Xea) (s : State) : Host.Outcome State Fault Refusal :=
  .next ((target.update s).jumpTo (target.addr s s.pc))

/-- JSR (47_branch_loop_jump.md R750): the address first, then the push (31 R161). -/
def execJsr (target : Ea) (s : State) : Host.Outcome State Fault Refusal :=
  .next (((target.update s).pushWord s.pc).jumpTo (target.addr s))

/-- BSR (47_branch_loop_jump.md R751). -/
def execBsr (rel : Byte) (s : State) : Host.Outcome State Fault Refusal :=
  .next ((s.pushWord s.pc).jumpTo (s.pc + sext8 rel))

/-- CALL once the address and the page are known: push PCnext, push PPAGE, load PPAGE and PC (47 R752; log 37). -/
def callTo (addr : Word) (page : Byte) (s : State) : State :=
  (((s.pushWord s.pc).pushByte s.ppage).setPpage page).jumpTo addr

/-- CALL (47_branch_loop_jump.md R752). -/
def execCall (target : CallTarget) (s : State) : Host.Outcome State Fault Refusal :=
  match target with
  | .ext addr page => .next (callTo addr page s)
  | .idx i page =>
    if i.isDirect then .next (callTo (i.addr s s.pc) page (i.update s)) else .refused .reservedForm
  | .ind i =>
    if i.isDirect then .refused .reservedForm
    else .next (callTo (i.addr s s.pc) (s.readByte (i.pointer s s.pc + 2)) s)

/-- RTC (47_branch_loop_jump.md R753): PPAGE is written before the address is pulled (log 37). -/
def execRtc (s : State) : Host.Outcome State Fault Refusal :=
  let t := (s.drop 1).setPpage (s.readByte s.sp)
  .next ((t.drop 2).jumpTo (t.readWord t.sp))

/-- RTS (47_branch_loop_jump.md R754). -/
def execRts (s : State) : Host.Outcome State Fault Refusal := .next ((s.drop 2).jumpTo (s.readWord s.sp))

end Sys2Proof.Machine
end

