-- ==== Sys2Proof/Machine/Fuzzy.lean ====
section
/-! DEFINITION. Fuzzy logic: MEM, REV, REVW, WAV and wavr (49_fuzzy.md). -/

namespace Sys2Proof.Machine

/-- MEM's grade of membership (49_fuzzy.md R1002). -/
def memGrade (x p1 p2 s1 s2 : Byte) : Byte :=
  let outside := x.toNat < p1.toNat || p2.toNat < x.toNat
  let grade1 := if outside then 0 else (x.toNat - p1.toNat) * s1.toNat
  let grade2 := if outside then 0 else (p2.toNat - x.toNat) * s2.toNat
  let grade := if (s2 == 0#8 || 255 < grade2) && !outside then 255 else grade2
  BitVec.ofNat 8 (if s1 == 0#8 || 255 < grade1 then grade else grade1)

/-- MEM (49_fuzzy.md R1001): H, N, Z, V, C are free values (log 19). -/
def execMem (s : State) : Host.Outcome State Fault Refusal :=
  let w1 := s.readWord s.x
  let w2 := s.readWord (s.x + 2)
  let grade := memGrade s.a (hiByte w1) (loByte w1) (hiByte w2) (loByte w2)
  .next (((((s.writeByte s.y grade).setY (s.y + 1)).setX (s.x + 4))).freeFlags 0x2F)

/-- The smaller of two unsigned bytes. -/
def minByte (p q : Byte) : Byte := if q < p then q else p

/-- Write A to a fuzzy output that is below it (49_fuzzy.md R1003: "similar to that of a MAXM"). -/
def raiseOutput (s : State) (addr : Word) : State := if s.readByte addr < s.a then s.writeByte addr s.a else s

/-- One element step of REV (49_fuzzy.md R1003). -/
def revElement (s : State) : State :=
  let r := s.readByte s.x
  let t := s.setX (s.x + 1)
  let addr := s.y + zext8 r
  if r = 0xFF#8 then t
  else if r = 0xFE#8 then
    (if s.ccr.getLsbD 1 then t.setA 0xFF else t).setCcr (putFlag 1 (!s.ccr.getLsbD 1) s.ccr)
  else if s.ccr.getLsbD 1 then raiseOutput t addr
  else t.setA (minByte s.a (s.readByte addr))

/-- REV (49_fuzzy.md R1003): one element; the next step goes on (R1000; log 34). H, N, Z, C are free values (log 19). -/
def execRev (s : State) : Host.Outcome State Fault Refusal :=
  let t := (revElement s).freeFlags 0x2D
  if s.readByte s.x = 0xFF#8 then .next (t.setRun .running)
  else .next { t.setRun .inRev with pc := s.pc - 2 }

/-- The weighted truth value (A × (weight + 1)) >> 8 (49_fuzzy.md R1004). -/
def weightTruth (x weight : Byte) : Byte := BitVec.ofNat 8 (x.toNat * (weight.toNat + 1) / 256)

/-- One element step of REVW (49_fuzzy.md R1004). -/
def revwElement (s : State) : State :=
  let r := s.readWord s.x
  let t := s.setX (s.x + 2)
  if r = 0xFFFF#16 then t
  else if r = 0xFFFE#16 then
    if s.ccr.getLsbD 1 then (t.setA 0xFF).setCcr (putFlag 1 false s.ccr)
    else
      (if s.ccr.getLsbD 0 then (t.setA (weightTruth s.a (s.readByte s.y))).setY (s.y + 1) else t).setCcr
        (putFlag 1 true s.ccr)
  else if s.ccr.getLsbD 1 then raiseOutput t r
  else t.setA (minByte s.a (s.readByte r))

/-- REVW (49_fuzzy.md R1004): one element; the next step goes on (R1000; log 34). H, N, Z are free values (log 19). -/
def execRevw (s : State) : Host.Outcome State Fault Refusal :=
  let t := (revwElement s).freeFlags 0x2C
  if s.readWord s.x = 0xFFFF#16 then .next (t.setRun .running)
  else .next { t.setRun .inRevw with pc := s.pc - 2 }

/-- Add one pair to the sums: SOW + F in TMP3, SOP + S × F in TMP1:TMP2 (49_fuzzy.md R1006, R1007). -/
def State.accumulate (s : State) (f p : Byte) : State :=
  let sop := longOf s.tmp1 s.tmp2 + p.zeroExtend 32 * f.zeroExtend 32
  ((s.setTmp1 (hiWord sop)).setTmp2 (loWord sop)).setTmp3 (s.tmp3 + zext8 f)

/-- WAV's results: SOP in Y:D, SOW in X, Z = 1; H, N, V, C are free values (49_fuzzy.md R1007; log 19). -/
def State.wavResults (s : State) : State :=
  ((((s.setY s.tmp1).setD s.tmp2).setX s.tmp3).setCcr (putFlag 2 true s.ccr)).freeFlags 0x2B

/-- The end of a pass: the results when the count is used up, with PC behind the `3C` byte at `resume`, else on to the next
pass (49_fuzzy.md R1006, R1007). -/
def State.wavPassEnd (s : State) (resume : Word) : State :=
  if s.b = 0#8 then { s.wavResults.setRun .running with pc := resume + 1 }
  else { s.setRun .inWav with pc := resume }

/-- WAV (49_fuzzy.md R1007): the sums are cleared; the next steps run the passes (R1000, R1008; log 34). -/
def execWav (s : State) : Host.Outcome State Fault Refusal :=
  let t := ((s.setTmp1 0).setTmp2 0).setTmp3 0
  .next { t.setRun .inWav with pc := s.pc - 1 }

/-- One pass of WAV, PC at the `3C` byte (49_fuzzy.md R1007): F at (Y) first, then S at (X) (92 D25). -/
def wavPass (s : State) : State :=
  let t := ((s.setB (s.b - 1)).setY (s.y + 1)).setX (s.x + 1)
  (t.accumulate (s.readByte s.y) (s.readByte s.x)).wavPassEnd s.pc

/-- A suspended WAV: the pass is begun without its terms, the sums are pushed (49_fuzzy.md R1008). -/
def wavSuspend (s : State) : State :=
  let t := (((s.setB (s.b - 1)).setY (s.y + 1)).setX (s.x + 1)).freeFlags 0x2F
  ((t.pushWord s.tmp3).pushWord s.tmp2).pushWord s.tmp1

/-- wavr (49_fuzzy.md R1006): the sums are pulled and the pass in progress is finished (log 35). -/
def execWavr (s : State) : Host.Outcome State Fault Refusal :=
  let t := (((s.setTmp1 (s.readWord s.sp)).setTmp2 (s.readWord (s.sp + 2))).setTmp3 (s.readWord (s.sp + 4))).drop 6
  .next ((t.accumulate (s.readByte (s.y - 1)) (s.readByte (s.x - 1))).wavPassEnd (s.pc - 1))

end Sys2Proof.Machine
end

