-- ==== Sys2Proof/Machine/IncDec.lean ====
section
/-! DEFINITION. Clear, complement, negate, decrement, increment and test (44_inc_dec_clr_com_neg_tst.md). -/

namespace Sys2Proof.Machine

/-- An operation on an 8-bit register: `op` takes the operand and the condition codes. -/
def unary8 (get : State → Byte) (set : State → Byte → State) (op : Byte → Byte → Byte × Byte) (s : State) : State :=
  let r := op (get s) s.ccr
  (set s r.1).setCcr r.2

/-- An operation on a 16-bit register. -/
def unary16 (get : State → Word) (set : State → Word → State) (op : Word → Byte → Word × Byte) (s : State) : State :=
  let r := op (get s) s.ccr
  (set s r.1).setCcr r.2

/-- Read a byte, operate, write it back to the same address (44 R520). -/
def modify8 (op : Byte → Byte → Byte × Byte) (ea : Xea) (s : State) : State :=
  let t := ea.update s
  let r := op (s.readByte (ea.addr s s.pc)) t.ccr
  (t.writeByte (ea.addr s s.pc) r.1).setCcr r.2

/-- Read a word, operate, write it back to the same address (44 R520). -/
def modify16 (op : Word → Byte → Word × Byte) (ea : Xea) (s : State) : State :=
  let t := ea.update s
  let r := op (s.readWord (ea.addr s s.pc)) t.ccr
  (t.writeWord (ea.addr s s.pc) r.1).setCcr r.2

/-- One's complement (44 R527). -/
def complement {w : Nat} (v : BitVec w) (ccr : Byte) : BitVec w × Byte := (~~~v, complementFlags (~~~v) ccr)
/-- Two's complement (44 R534). -/
def negate {w : Nat} (v : BitVec w) (ccr : Byte) : BitVec w × Byte := (0#w - v, negateFlags (0#w - v) ccr)
/-- Minus one, C unchanged (44 R541). -/
def decrement {w : Nat} (v : BitVec w) (ccr : Byte) : BitVec w × Byte := (v - 1#w, decrementFlags v ccr)
/-- Plus one, C unchanged (44 R551). -/
def increment {w : Nat} (v : BitVec w) (ccr : Byte) : BitVec w × Byte := (v + 1#w, incrementFlags v ccr)

/-- CLR (44_inc_dec_clr_com_neg_tst.md R521): M is not read. -/
def execClr (ea : Xea) (s : State) : Host.Outcome State Fault Refusal :=
  let t := ea.update s
  .next ((t.writeByte (ea.addr s s.pc) 0x00).setCcr (clearFlags t.ccr))

/-- CLRW (44_inc_dec_clr_com_neg_tst.md R524): M:M+1 is not read. -/
def execClrw (ea : Xea) (s : State) : Host.Outcome State Fault Refusal :=
  let t := ea.update s
  .next ((t.writeWord (ea.addr s s.pc) 0x0000).setCcr (clearFlags t.ccr))

/-- CLRA (44_inc_dec_clr_com_neg_tst.md R522). -/
def execClra (s : State) : Host.Outcome State Fault Refusal := .next ((s.setA 0).setCcr (clearFlags s.ccr))

/-- CLRB (44_inc_dec_clr_com_neg_tst.md R523). -/
def execClrb (s : State) : Host.Outcome State Fault Refusal := .next ((s.setB 0).setCcr (clearFlags s.ccr))

/-- CLRX (44_inc_dec_clr_com_neg_tst.md R525). -/
def execClrx (s : State) : Host.Outcome State Fault Refusal := .next ((s.setX 0).setCcr (clearFlags s.ccr))

/-- CLRY (44_inc_dec_clr_com_neg_tst.md R526). -/
def execClry (s : State) : Host.Outcome State Fault Refusal := .next ((s.setY 0).setCcr (clearFlags s.ccr))

/-- COM (44_inc_dec_clr_com_neg_tst.md R528). -/
def execCom (ea : Xea) (s : State) : Host.Outcome State Fault Refusal := .next (modify8 complement ea s)

/-- COMW (44_inc_dec_clr_com_neg_tst.md R531). -/
def execComw (ea : Xea) (s : State) : Host.Outcome State Fault Refusal := .next (modify16 complement ea s)

/-- COMA (44_inc_dec_clr_com_neg_tst.md R529). -/
def execComa (s : State) : Host.Outcome State Fault Refusal := .next (unary8 State.a State.setA complement s)

/-- COMB (44_inc_dec_clr_com_neg_tst.md R530). -/
def execComb (s : State) : Host.Outcome State Fault Refusal := .next (unary8 State.b State.setB complement s)

/-- COMX (44_inc_dec_clr_com_neg_tst.md R532). -/
def execComx (s : State) : Host.Outcome State Fault Refusal := .next (unary16 State.x State.setX complement s)

/-- COMY (44_inc_dec_clr_com_neg_tst.md R533). -/
def execComy (s : State) : Host.Outcome State Fault Refusal := .next (unary16 State.y State.setY complement s)

/-- NEG (44_inc_dec_clr_com_neg_tst.md R535). -/
def execNeg (ea : Xea) (s : State) : Host.Outcome State Fault Refusal := .next (modify8 negate ea s)

/-- NEGW (44_inc_dec_clr_com_neg_tst.md R538). -/
def execNegw (ea : Xea) (s : State) : Host.Outcome State Fault Refusal := .next (modify16 negate ea s)

/-- NEGA (44_inc_dec_clr_com_neg_tst.md R536). -/
def execNega (s : State) : Host.Outcome State Fault Refusal := .next (unary8 State.a State.setA negate s)

/-- NEGB (44_inc_dec_clr_com_neg_tst.md R537). -/
def execNegb (s : State) : Host.Outcome State Fault Refusal := .next (unary8 State.b State.setB negate s)

/-- NEGX (44_inc_dec_clr_com_neg_tst.md R539). -/
def execNegx (s : State) : Host.Outcome State Fault Refusal := .next (unary16 State.x State.setX negate s)

/-- NEGY (44_inc_dec_clr_com_neg_tst.md R540). -/
def execNegy (s : State) : Host.Outcome State Fault Refusal := .next (unary16 State.y State.setY negate s)

/-- DEC (44_inc_dec_clr_com_neg_tst.md R542). -/
def execDec (ea : Xea) (s : State) : Host.Outcome State Fault Refusal := .next (modify8 decrement ea s)

/-- DECW (44_inc_dec_clr_com_neg_tst.md R545). -/
def execDecw (ea : Xea) (s : State) : Host.Outcome State Fault Refusal := .next (modify16 decrement ea s)

/-- DECA (44_inc_dec_clr_com_neg_tst.md R543). -/
def execDeca (s : State) : Host.Outcome State Fault Refusal := .next (unary8 State.a State.setA decrement s)

/-- DECB (44_inc_dec_clr_com_neg_tst.md R544). -/
def execDecb (s : State) : Host.Outcome State Fault Refusal := .next (unary8 State.b State.setB decrement s)

/-- DECX (44_inc_dec_clr_com_neg_tst.md R546). -/
def execDecx (s : State) : Host.Outcome State Fault Refusal := .next (unary16 State.x State.setX decrement s)

/-- DECY (44_inc_dec_clr_com_neg_tst.md R547). -/
def execDecy (s : State) : Host.Outcome State Fault Refusal := .next (unary16 State.y State.setY decrement s)

/-- INC (44_inc_dec_clr_com_neg_tst.md R552). -/
def execInc (ea : Xea) (s : State) : Host.Outcome State Fault Refusal := .next (modify8 increment ea s)

/-- INCW (44_inc_dec_clr_com_neg_tst.md R555). -/
def execIncw (ea : Xea) (s : State) : Host.Outcome State Fault Refusal := .next (modify16 increment ea s)

/-- INCA (44_inc_dec_clr_com_neg_tst.md R553). -/
def execInca (s : State) : Host.Outcome State Fault Refusal := .next (unary8 State.a State.setA increment s)

/-- INCB (44_inc_dec_clr_com_neg_tst.md R554). -/
def execIncb (s : State) : Host.Outcome State Fault Refusal := .next (unary8 State.b State.setB increment s)

/-- INCX (44_inc_dec_clr_com_neg_tst.md R556). -/
def execIncx (s : State) : Host.Outcome State Fault Refusal := .next (unary16 State.x State.setX increment s)

/-- INCY (44_inc_dec_clr_com_neg_tst.md R557). -/
def execIncy (s : State) : Host.Outcome State Fault Refusal := .next (unary16 State.y State.setY increment s)

/-- DEX (44_inc_dec_clr_com_neg_tst.md R549): Z only (R548). -/
def execDex (s : State) : Host.Outcome State Fault Refusal :=
  .next ((s.setX (s.x - 1)).setCcr (zeroFlag (s.x - 1) s.ccr))

/-- DEY (44_inc_dec_clr_com_neg_tst.md R550): Z only (R548). -/
def execDey (s : State) : Host.Outcome State Fault Refusal :=
  .next ((s.setY (s.y - 1)).setCcr (zeroFlag (s.y - 1) s.ccr))

/-- INX (44_inc_dec_clr_com_neg_tst.md R558): Z only (R548). -/
def execInx (s : State) : Host.Outcome State Fault Refusal :=
  .next ((s.setX (s.x + 1)).setCcr (zeroFlag (s.x + 1) s.ccr))

/-- INY (44_inc_dec_clr_com_neg_tst.md R559): Z only (R548). -/
def execIny (s : State) : Host.Outcome State Fault Refusal :=
  .next ((s.setY (s.y + 1)).setCcr (zeroFlag (s.y + 1) s.ccr))

/-- TST (44_inc_dec_clr_com_neg_tst.md R561). -/
def execTst (ea : Xea) (s : State) : Host.Outcome State Fault Refusal :=
  let t := ea.update s
  .next (t.setCcr (testFlags (s.readByte (ea.addr s s.pc)) t.ccr))

/-- TSTW (44_inc_dec_clr_com_neg_tst.md R564). -/
def execTstw (ea : Xea) (s : State) : Host.Outcome State Fault Refusal :=
  let t := ea.update s
  .next (t.setCcr (testFlags (s.readWord (ea.addr s s.pc)) t.ccr))

/-- TSTA (44_inc_dec_clr_com_neg_tst.md R562). -/
def execTsta (s : State) : Host.Outcome State Fault Refusal := .next (s.setCcr (testFlags s.a s.ccr))

/-- TSTB (44_inc_dec_clr_com_neg_tst.md R563). -/
def execTstb (s : State) : Host.Outcome State Fault Refusal := .next (s.setCcr (testFlags s.b s.ccr))

/-- TSTX (44_inc_dec_clr_com_neg_tst.md R565). -/
def execTstx (s : State) : Host.Outcome State Fault Refusal := .next (s.setCcr (testFlags s.x s.ccr))

/-- TSTY (44_inc_dec_clr_com_neg_tst.md R566). -/
def execTsty (s : State) : Host.Outcome State Fault Refusal := .next (s.setCcr (testFlags s.y s.ccr))

end Sys2Proof.Machine
end

