-- ==== Sys2Proof/Machine/LoadStore.lean ====
section
/-! DEFINITION. Loads, stores, load-effective-address, global loads and stores, moves (40_load_store_move.md). -/

namespace Sys2Proof.Machine

/-- A load into an 8-bit register (40_load_store_move.md R200). -/
def load8 (set : State → Byte → State) (src : Src8) (s : State) : State :=
  let v := src.value s
  let t := set (src.update s) v
  t.setCcr (logicFlags v t.ccr)

/-- A load into a 16-bit register (40_load_store_move.md R200). -/
def load16 (set : State → Word → State) (src : Src16) (s : State) : State :=
  let v := src.value s
  let t := set (src.update s) v
  t.setCcr (logicFlags v t.ccr)

/-- A store of an 8-bit register, read after the address is formed (40 R207, 31 R148). -/
def store8 (get : State → Byte) (ea : Ea) (s : State) : State :=
  let t := ea.update s
  (t.writeByte (ea.addr s) (get t)).setCcr (logicFlags (get t) t.ccr)

/-- A store of a 16-bit register, read after the address is formed (40 R207, 31 R148). -/
def store16 (get : State → Word) (ea : Ea) (s : State) : State :=
  let t := ea.update s
  (t.writeWord (ea.addr s) (get t)).setCcr (logicFlags (get t) t.ccr)

/-- A load from global memory into an 8-bit register (40_load_store_move.md R221). -/
def globalLoad8 (set : State → Byte → State) (ea : Ea) (s : State) : State :=
  let v := s.globalReadByte (ea.addr s)
  let t := set (ea.update s) v
  t.setCcr (logicFlags v t.ccr)

/-- A load from global memory into a 16-bit register (40_load_store_move.md R221). -/
def globalLoad16 (set : State → Word → State) (ea : Ea) (s : State) : State :=
  let v := s.globalReadWord (ea.addr s)
  let t := set (ea.update s) v
  t.setCcr (logicFlags v t.ccr)

/-- A store of an 8-bit register to global memory (40_load_store_move.md R221). -/
def globalStore8 (get : State → Byte) (ea : Ea) (s : State) : State :=
  let t := ea.update s
  (t.globalWriteByte (ea.addr s) (get t)).setCcr (logicFlags (get t) t.ccr)

/-- A store of a 16-bit register to global memory (40_load_store_move.md R221). -/
def globalStore16 (get : State → Word) (ea : Ea) (s : State) : State :=
  let t := ea.update s
  (t.globalWriteWord (ea.addr s) (get t)).setCcr (logicFlags (get t) t.ccr)

/-- Load an effective address: the index register is updated, then the address is written (31_indexed_postbyte.md R150);
an indirect operand is no form of the instruction (R160, log 26). -/
def loadAddress (set : State → Word → State) (idx : Idx) (s : State) : Host.Outcome State Fault Refusal :=
  if idx.isDirect then .next (set (idx.update s) (idx.addr s s.pc)) else .refused .reservedForm

/-- LDAA (40_load_store_move.md R201). -/
def execLdaa (src : Src8) (s : State) : Host.Outcome State Fault Refusal := .next (load8 State.setA src s)

/-- LDAB (40_load_store_move.md R202). -/
def execLdab (src : Src8) (s : State) : Host.Outcome State Fault Refusal := .next (load8 State.setB src s)

/-- LDD (40_load_store_move.md R203). -/
def execLdd (src : Src16) (s : State) : Host.Outcome State Fault Refusal := .next (load16 State.setD src s)

/-- LDS (40_load_store_move.md R204). -/
def execLds (src : Src16) (s : State) : Host.Outcome State Fault Refusal := .next (load16 State.setSp src s)

/-- LDX (40_load_store_move.md R205). -/
def execLdx (src : Src16) (s : State) : Host.Outcome State Fault Refusal := .next (load16 State.setX src s)

/-- LDY (40_load_store_move.md R206). -/
def execLdy (src : Src16) (s : State) : Host.Outcome State Fault Refusal := .next (load16 State.setY src s)

/-- STAA (40_load_store_move.md R208). -/
def execStaa (ea : Ea) (s : State) : Host.Outcome State Fault Refusal := .next (store8 State.a ea s)

/-- STAB (40_load_store_move.md R209). -/
def execStab (ea : Ea) (s : State) : Host.Outcome State Fault Refusal := .next (store8 State.b ea s)

/-- STD (40_load_store_move.md R210). -/
def execStd (ea : Ea) (s : State) : Host.Outcome State Fault Refusal := .next (store16 State.d ea s)

/-- STS (40_load_store_move.md R211). -/
def execSts (ea : Ea) (s : State) : Host.Outcome State Fault Refusal := .next (store16 State.sp ea s)

/-- STX (40_load_store_move.md R212). -/
def execStx (ea : Ea) (s : State) : Host.Outcome State Fault Refusal := .next (store16 State.x ea s)

/-- STY (40_load_store_move.md R213). -/
def execSty (ea : Ea) (s : State) : Host.Outcome State Fault Refusal := .next (store16 State.y ea s)

/-- LEAS (40_load_store_move.md R214). -/
def execLeas (idx : Idx) (s : State) : Host.Outcome State Fault Refusal := loadAddress State.setSp idx s

/-- LEAX (40_load_store_move.md R215). -/
def execLeax (idx : Idx) (s : State) : Host.Outcome State Fault Refusal := loadAddress State.setX idx s

/-- LEAY (40_load_store_move.md R216). -/
def execLeay (idx : Idx) (s : State) : Host.Outcome State Fault Refusal := loadAddress State.setY idx s

/-- ABX (40_load_store_move.md R217), the assembler's name for a LEAX (30 R111). -/
def execAbx (s : State) : Host.Outcome State Fault Refusal := .next (s.setX (s.x + zext8 s.b))

/-- ABY (40_load_store_move.md R218), the assembler's name for a LEAY (30 R111). -/
def execAby (s : State) : Host.Outcome State Fault Refusal := .next (s.setY (s.y + zext8 s.b))

/-- DES (40_load_store_move.md R219), the assembler's name for a LEAS (30 R111). -/
def execDes (s : State) : Host.Outcome State Fault Refusal := .next (s.setSp (s.sp - 1))

/-- INS (40_load_store_move.md R220), the assembler's name for a LEAS (30 R111). -/
def execIns (s : State) : Host.Outcome State Fault Refusal := .next (s.setSp (s.sp + 1))

/-- GLDAA (40_load_store_move.md R222). -/
def execGldaa (ea : Ea) (s : State) : Host.Outcome State Fault Refusal := .next (globalLoad8 State.setA ea s)

/-- GLDAB (40_load_store_move.md R223). -/
def execGldab (ea : Ea) (s : State) : Host.Outcome State Fault Refusal := .next (globalLoad8 State.setB ea s)

/-- GLDD (40_load_store_move.md R224). -/
def execGldd (ea : Ea) (s : State) : Host.Outcome State Fault Refusal := .next (globalLoad16 State.setD ea s)

/-- GLDS (40_load_store_move.md R225). -/
def execGlds (ea : Ea) (s : State) : Host.Outcome State Fault Refusal := .next (globalLoad16 State.setSp ea s)

/-- GLDX (40_load_store_move.md R226). -/
def execGldx (ea : Ea) (s : State) : Host.Outcome State Fault Refusal := .next (globalLoad16 State.setX ea s)

/-- GLDY (40_load_store_move.md R227). -/
def execGldy (ea : Ea) (s : State) : Host.Outcome State Fault Refusal := .next (globalLoad16 State.setY ea s)

/-- GSTAA (40_load_store_move.md R231). -/
def execGstaa (ea : Ea) (s : State) : Host.Outcome State Fault Refusal := .next (globalStore8 State.a ea s)

/-- GSTAB (40_load_store_move.md R232). -/
def execGstab (ea : Ea) (s : State) : Host.Outcome State Fault Refusal := .next (globalStore8 State.b ea s)

/-- GSTD (40_load_store_move.md R233). -/
def execGstd (ea : Ea) (s : State) : Host.Outcome State Fault Refusal := .next (globalStore16 State.d ea s)

/-- GSTS (40_load_store_move.md R234). -/
def execGsts (ea : Ea) (s : State) : Host.Outcome State Fault Refusal := .next (globalStore16 State.sp ea s)

/-- GSTX (40_load_store_move.md R235). -/
def execGstx (ea : Ea) (s : State) : Host.Outcome State Fault Refusal := .next (globalStore16 State.x ea s)

/-- GSTY (40_load_store_move.md R236). -/
def execGsty (ea : Ea) (s : State) : Host.Outcome State Fault Refusal := .next (globalStore16 State.y ea s)

/-- MOVB (40_load_store_move.md R237): source first, then the destination (R229, R230). -/
def execMovb (src : MoveSrc8) (dst : Xea) (s : State) : Host.Outcome State Fault Refusal :=
  let t := src.update s
  .next ((dst.update t).writeByte (dst.addr t t.pc) (src.value dst s))

/-- MOVW (40_load_store_move.md R238): source first, then the destination (R229, R230). -/
def execMovw (src : MoveSrc16) (dst : Xea) (s : State) : Host.Outcome State Fault Refusal :=
  let t := src.update s
  .next ((dst.update t).writeWord (dst.addr t t.pc) (src.value dst s))

end Sys2Proof.Machine
end

