-- ==== Sys2Proof/Machine/Logic.lean ====
section
/-! DEFINITION. Boolean logic, bit test and bit manipulation (43_logic_bit.md). -/

namespace Sys2Proof.Machine

/-- A bitwise operation with the logic flag rule (43_logic_bit.md R450). -/
def logic {w : Nat} (f : BitVec w → BitVec w → BitVec w) (x m : BitVec w) (ccr : Byte) : BitVec w × Byte :=
  (f x m, logicFlags (f x m) ccr)

/-- Bitwise AND. -/
def bitAnd {w : Nat} (x m : BitVec w) : BitVec w := x &&& m
/-- Bitwise inclusive OR. -/
def bitOr {w : Nat} (x m : BitVec w) : BitVec w := x ||| m
/-- Bitwise exclusive OR. -/
def bitXor {w : Nat} (x m : BitVec w) : BitVec w := x ^^^ m

/-- Read the byte at the operand, store `f` of it and set the flags by `test` of it; an indirect operand is no form of the
instruction (43_logic_bit.md R467, 31 R160; log 26). -/
def modifyBits (f test : Byte → Byte) (ea : Ea) (s : State) : Host.Outcome State Fault Refusal :=
  if ea.isDirect then
    let m := s.readByte (ea.addr s)
    let t := ea.update s
    .next ((t.writeByte (ea.addr s) (f m)).setCcr (logicFlags (test m) t.ccr))
  else .refused .reservedForm

/-- ANDA (43_logic_bit.md R451). -/
def execAnda (src : Src8) (s : State) : Host.Outcome State Fault Refusal :=
  .next (binary8 State.a State.setA (logic bitAnd) src s)

/-- ANDB (43_logic_bit.md R452). -/
def execAndb (src : Src8) (s : State) : Host.Outcome State Fault Refusal :=
  .next (binary8 State.b State.setB (logic bitAnd) src s)

/-- ANDX (43_logic_bit.md R453). -/
def execAndx (src : Src16) (s : State) : Host.Outcome State Fault Refusal :=
  .next (binary16 State.x State.setX (logic bitAnd) src s)

/-- ANDY (43_logic_bit.md R454). -/
def execAndy (src : Src16) (s : State) : Host.Outcome State Fault Refusal :=
  .next (binary16 State.y State.setY (logic bitAnd) src s)

/-- EORA (43_logic_bit.md R459). -/
def execEora (src : Src8) (s : State) : Host.Outcome State Fault Refusal :=
  .next (binary8 State.a State.setA (logic bitXor) src s)

/-- EORB (43_logic_bit.md R460). -/
def execEorb (src : Src8) (s : State) : Host.Outcome State Fault Refusal :=
  .next (binary8 State.b State.setB (logic bitXor) src s)

/-- EORX (43_logic_bit.md R461). -/
def execEorx (src : Src16) (s : State) : Host.Outcome State Fault Refusal :=
  .next (binary16 State.x State.setX (logic bitXor) src s)

/-- EORY (43_logic_bit.md R462). -/
def execEory (src : Src16) (s : State) : Host.Outcome State Fault Refusal :=
  .next (binary16 State.y State.setY (logic bitXor) src s)

/-- ORAA (43_logic_bit.md R463). -/
def execOraa (src : Src8) (s : State) : Host.Outcome State Fault Refusal :=
  .next (binary8 State.a State.setA (logic bitOr) src s)

/-- ORAB (43_logic_bit.md R464). -/
def execOrab (src : Src8) (s : State) : Host.Outcome State Fault Refusal :=
  .next (binary8 State.b State.setB (logic bitOr) src s)

/-- ORX (43_logic_bit.md R465). -/
def execOrx (src : Src16) (s : State) : Host.Outcome State Fault Refusal :=
  .next (binary16 State.x State.setX (logic bitOr) src s)

/-- ORY (43_logic_bit.md R466). -/
def execOry (src : Src16) (s : State) : Host.Outcome State Fault Refusal :=
  .next (binary16 State.y State.setY (logic bitOr) src s)

/-- BITA (43_logic_bit.md R455). -/
def execBita (src : Src8) (s : State) : Host.Outcome State Fault Refusal :=
  .next (compare8 State.a (logic bitAnd) src s)

/-- BITB (43_logic_bit.md R456). -/
def execBitb (src : Src8) (s : State) : Host.Outcome State Fault Refusal :=
  .next (compare8 State.b (logic bitAnd) src s)

/-- BITX (43_logic_bit.md R457). -/
def execBitx (src : Src16) (s : State) : Host.Outcome State Fault Refusal :=
  .next (compare16 State.x (logic bitAnd) src s)

/-- BITY (43_logic_bit.md R458). -/
def execBity (src : Src16) (s : State) : Host.Outcome State Fault Refusal :=
  .next (compare16 State.y (logic bitAnd) src s)

/-- BCLR (43_logic_bit.md R468). -/
def execBclr (ea : Ea) (mask : Byte) (s : State) : Host.Outcome State Fault Refusal :=
  modifyBits (fun m => m &&& ~~~mask) (fun m => m &&& ~~~mask) ea s

/-- BSET (43_logic_bit.md R469). -/
def execBset (ea : Ea) (mask : Byte) (s : State) : Host.Outcome State Fault Refusal :=
  modifyBits (fun m => m ||| mask) (fun m => m ||| mask) ea s

/-- BTAS (43_logic_bit.md R470): one step, so atomic (20_memory.md R78). -/
def execBtas (ea : Ea) (mask : Byte) (s : State) : Host.Outcome State Fault Refusal :=
  modifyBits (fun m => m ||| mask) (fun m => m &&& mask) ea s

end Sys2Proof.Machine
end

