-- ==== Sys2Proof/Machine/MulDiv.lean ====
section
/-! DEFINITION. Multiply, divide, multiply-accumulate, minimum, maximum and table interpolation (46_mul_div_minmax_table.md). -/

namespace Sys2Proof.Machine

/-- N, Z and C of a 32-bit product: C is bit 15 (46 R651, R652). -/
def productFlags (p : BitVec 32) (ccr : Byte) : Byte := putFlag 0 (p.getLsbD 15) (flagsNZ p ccr)

/-- MUL (46_mul_div_minmax_table.md R650). -/
def execMul (s : State) : Host.Outcome State Fault Refusal :=
  let p := zext8 s.a * zext8 s.b
  .next ((s.setD p).setCcr (putFlag 0 (p.getLsbD 7) s.ccr))

/-- EMUL (46_mul_div_minmax_table.md R651). -/
def execEmul (s : State) : Host.Outcome State Fault Refusal :=
  let p := s.d.zeroExtend 32 * s.y.zeroExtend 32
  .next (((s.setY (hiWord p)).setD (loWord p)).setCcr (productFlags p s.ccr))

/-- EMULS (46_mul_div_minmax_table.md R652). -/
def execEmuls (s : State) : Host.Outcome State Fault Refusal :=
  let p := s.d.signExtend 32 * s.y.signExtend 32
  .next (((s.setY (hiWord p)).setD (loWord p)).setCcr (productFlags p s.ccr))

/-- EMACS (46_mul_div_minmax_table.md R653): high word written first (92 D2). -/
def execEmacs (addr : Word) (s : State) : Host.Outcome State Fault Refusal :=
  let i := (s.readWord s.x).signExtend 32 * (s.readWord s.y).signExtend 32
  let m := longOf (s.readWord addr) (s.readWord (addr + 2))
  let r := m + i
  let t := (s.writeWord addr (hiWord r)).writeWord (addr + 2) (loWord r)
  .next (t.setCcr (flagsNZVC r (addOverflow m i r) (addCarry (loWord m) (loWord i) false) s.ccr))

/-- Division by zero that leaves the registers: C = 1, N, Z and V free values (46 R655, R656, R658; log 19). -/
def divideByZero (s : State) : State := (s.setCcr (putFlag 0 true s.ccr)).freeFlags 0x0E

/-- Quotient out of range: V = 1, C = 0, N and Z free values (46 R655, R656, R658; log 19). -/
def divideOverflow (s : State) : State := (s.setCcr (putFlag 1 true (putFlag 0 false s.ccr))).freeFlags 0x0C

/-- Z, V and C of IDIV and FDIV; N stays (46 R657, R659). -/
def quotientFlags (q : Word) (v c : Bool) (ccr : Byte) : Byte := putFlag 2 (q == 0#16) (putFlag 1 v (putFlag 0 c ccr))

/-- EDIV (46_mul_div_minmax_table.md R655). -/
def execEdiv (s : State) : Host.Outcome State Fault Refusal :=
  let n := (longOf s.y s.d).toNat
  let q := n / s.x.toNat
  if s.x = 0#16 then .next (divideByZero s)
  else if 65535 < q then .next (divideOverflow s)
  else .next (((s.setY (BitVec.ofNat 16 q)).setD (BitVec.ofNat 16 (n % s.x.toNat))).setCcr
    (flagsNZVC (BitVec.ofNat 16 q) false false s.ccr))

/-- EDIVS (46_mul_div_minmax_table.md R656): toward zero (R654; log 21). -/
def execEdivs (s : State) : Host.Outcome State Fault Refusal :=
  let n := (longOf s.y s.d).toInt
  let q := n.tdiv s.x.toInt
  if s.x = 0#16 then .next (divideByZero s)
  else if 32767 < q ∨ q < -32768 then .next (divideOverflow s)
  else .next (((s.setY (BitVec.ofInt 16 q)).setD (BitVec.ofInt 16 (n.tmod s.x.toInt))).setCcr
    (flagsNZVC (BitVec.ofInt 16 q) false false s.ccr))

/-- IDIV (46_mul_div_minmax_table.md R657): D after division by zero is a free value (log 20). -/
def execIdiv (s : State) : Host.Outcome State Fault Refusal :=
  if s.x = 0#16 then
    .next (((s.setX 0xFFFF).setD s.freeWord).useFree.setCcr (quotientFlags 0xFFFF#16 false true s.ccr))
  else
    let q := s.d / s.x
    .next (((s.setX q).setD (s.d % s.x)).setCcr (quotientFlags q false false s.ccr))

/-- IDIVS (46_mul_div_minmax_table.md R658): toward zero (R654; log 21); X and D after the overflow are free values (log 20). -/
def execIdivs (s : State) : Host.Outcome State Fault Refusal :=
  let q := s.d.toInt.tdiv s.x.toInt
  if s.x = 0#16 then .next (divideByZero s)
  else if s.d = 0x8000#16 ∧ s.x = 0xFFFF#16 then
    let t := (s.setX s.freeWord).useFree
    .next (divideOverflow (t.setD t.freeWord).useFree)
  else .next (((s.setX (BitVec.ofInt 16 q)).setD (BitVec.ofInt 16 (s.d.toInt.tmod s.x.toInt))).setCcr
    (flagsNZVC (BitVec.ofInt 16 q) false false s.ccr))

/-- FDIV (46_mul_div_minmax_table.md R659): D after overflow or division by zero is a free value (log 20). -/
def execFdiv (s : State) : Host.Outcome State Fault Refusal :=
  let n := s.d.toNat * 65536
  if s.x ≤ s.d then
    .next (((s.setX 0xFFFF).setD s.freeWord).useFree.setCcr (quotientFlags 0xFFFF#16 true (s.x == 0#16) s.ccr))
  else
    let q := BitVec.ofNat 16 (n / s.x.toNat)
    .next (((s.setX q).setD (BitVec.ofNat 16 (n % s.x.toNat))).setCcr (quotientFlags q false false s.ccr))

/-- MIN and MAX into a register: flags from register - memory, then the choice (46 R660). -/
def select8 (choose : Byte → Byte → Byte) (idx : Idx) (s : State) : State :=
  let m := s.readByte (idx.addr s s.pc)
  let t := idx.update s
  (t.setA (choose t.a m)).setCcr (subFlags t.a m false t.ccr)

/-- MIN and MAX into memory, written on every execution (46 R660). -/
def selectMemory8 (choose : Byte → Byte → Byte) (idx : Idx) (s : State) : State :=
  let m := s.readByte (idx.addr s s.pc)
  let t := idx.update s
  (t.writeByte (idx.addr s s.pc) (choose t.a m)).setCcr (subFlags t.a m false t.ccr)

/-- EMIN and EMAX into D (46 R660). -/
def select16 (choose : Word → Word → Word) (idx : Idx) (s : State) : State :=
  let m := s.readWord (idx.addr s s.pc)
  let t := idx.update s
  (t.setD (choose t.d m)).setCcr (subFlags t.d m false t.ccr)

/-- EMIN and EMAX into memory, written on every execution (46 R660). -/
def selectMemory16 (choose : Word → Word → Word) (idx : Idx) (s : State) : State :=
  let m := s.readWord (idx.addr s s.pc)
  let t := idx.update s
  (t.writeWord (idx.addr s s.pc) (choose t.d m)).setCcr (subFlags t.d m false t.ccr)

/-- The larger of register and memory, unsigned: memory when C = 1 (46 R661 to R666). -/
def larger {w : Nat} (x m : BitVec w) : BitVec w := if subBorrow x m false then m else x
/-- The smaller of register and memory, unsigned: the register when C = 1 (46 R663 to R668). -/
def smaller {w : Nat} (x m : BitVec w) : BitVec w := if subBorrow x m false then x else m

/-- MAXA (46_mul_div_minmax_table.md R661). -/
def execMaxa (idx : Idx) (s : State) : Host.Outcome State Fault Refusal := .next (select8 larger idx s)

/-- MAXM (46_mul_div_minmax_table.md R662). -/
def execMaxm (idx : Idx) (s : State) : Host.Outcome State Fault Refusal := .next (selectMemory8 larger idx s)

/-- MINA (46_mul_div_minmax_table.md R663). -/
def execMina (idx : Idx) (s : State) : Host.Outcome State Fault Refusal := .next (select8 smaller idx s)

/-- MINM (46_mul_div_minmax_table.md R664). -/
def execMinm (idx : Idx) (s : State) : Host.Outcome State Fault Refusal := .next (selectMemory8 smaller idx s)

/-- EMAXD (46_mul_div_minmax_table.md R665). -/
def execEmaxd (idx : Idx) (s : State) : Host.Outcome State Fault Refusal := .next (select16 larger idx s)

/-- EMAXM (46_mul_div_minmax_table.md R666). -/
def execEmaxm (idx : Idx) (s : State) : Host.Outcome State Fault Refusal := .next (selectMemory16 larger idx s)

/-- EMIND (46_mul_div_minmax_table.md R667). -/
def execEmind (idx : Idx) (s : State) : Host.Outcome State Fault Refusal := .next (select16 smaller idx s)

/-- EMINM (46_mul_div_minmax_table.md R668). -/
def execEminm (idx : Idx) (s : State) : Host.Outcome State Fault Refusal := .next (selectMemory16 smaller idx s)

/-- TBL (46_mul_div_minmax_table.md R670): IDX postbytes only (R669; log 26). -/
def execTbl (idx : Idx) (s : State) : Host.Outcome State Fault Refusal :=
  if idx.noExtension then
    let ea := idx.addr s s.pc
    let t := idx.update s
    let y1 := s.readByte ea
    let y2 := s.readByte (ea + 1)
    let r := interpolate y1 y2 s.b
    .next ((t.setA r).setCcr (putFlag 0 (interpolateCarry y1 y2 s.b) (flagsNZ r t.ccr)))
  else .refused .reservedForm

/-- ETBL (46_mul_div_minmax_table.md R671): IDX postbytes only (R669; log 26). -/
def execEtbl (idx : Idx) (s : State) : Host.Outcome State Fault Refusal :=
  if idx.noExtension then
    let ea := idx.addr s s.pc
    let t := idx.update s
    let y1 := s.readWord ea
    let y2 := s.readWord (ea + 2)
    let r := interpolate y1 y2 s.b
    .next ((t.setD r).setCcr (putFlag 0 (interpolateCarry y1 y2 s.b) (flagsNZ r t.ccr)))
  else .refused .reservedForm

end Sys2Proof.Machine
end

