-- ==== Sys2Proof/Machine/Shift.lean ====
section
/-! DEFINITION. Shifts and rotates by one bit (45_shift_rotate.md). -/

namespace Sys2Proof.Machine

/-- Arithmetic (and logical) shift left (45_shift_rotate.md R601). -/
def shiftLeft {w : Nat} (v : BitVec w) (ccr : Byte) : BitVec w × Byte :=
  (shiftLeftIn v false, shiftFlags (shiftLeftIn v false) v.msb ccr)
/-- Arithmetic shift right: the MSB is held (45 R601). -/
def arithmeticRight {w : Nat} (v : BitVec w) (ccr : Byte) : BitVec w × Byte :=
  (shiftRightIn v v.msb, shiftFlags (shiftRightIn v v.msb) (v.getLsbD 0) ccr)
/-- Logical shift right (45 R601). -/
def logicalRight {w : Nat} (v : BitVec w) (ccr : Byte) : BitVec w × Byte :=
  (shiftRightIn v false, shiftFlags (shiftRightIn v false) (v.getLsbD 0) ccr)
/-- Rotate left through C (45 R601). -/
def rotateLeft {w : Nat} (v : BitVec w) (ccr : Byte) : BitVec w × Byte :=
  (shiftLeftIn v (ccr.getLsbD 0), shiftFlags (shiftLeftIn v (ccr.getLsbD 0)) v.msb ccr)
/-- Rotate right through C (45 R601). -/
def rotateRight {w : Nat} (v : BitVec w) (ccr : Byte) : BitVec w × Byte :=
  (shiftRightIn v (ccr.getLsbD 0), shiftFlags (shiftRightIn v (ccr.getLsbD 0)) (v.getLsbD 0) ccr)

/-- ASL (45_shift_rotate.md R603). -/
def execAsl (ea : Xea) (s : State) : Host.Outcome State Fault Refusal := .next (modify8 shiftLeft ea s)

/-- ASLW (45_shift_rotate.md R607). -/
def execAslw (ea : Xea) (s : State) : Host.Outcome State Fault Refusal := .next (modify16 shiftLeft ea s)

/-- ASLA (45_shift_rotate.md R604). -/
def execAsla (s : State) : Host.Outcome State Fault Refusal := .next (unary8 State.a State.setA shiftLeft s)

/-- ASLB (45_shift_rotate.md R605). -/
def execAslb (s : State) : Host.Outcome State Fault Refusal := .next (unary8 State.b State.setB shiftLeft s)

/-- ASLX (45_shift_rotate.md R608). -/
def execAslx (s : State) : Host.Outcome State Fault Refusal := .next (unary16 State.x State.setX shiftLeft s)

/-- ASLY (45_shift_rotate.md R609). -/
def execAsly (s : State) : Host.Outcome State Fault Refusal := .next (unary16 State.y State.setY shiftLeft s)

/-- ASLD (45_shift_rotate.md R606). -/
def execAsld (s : State) : Host.Outcome State Fault Refusal := .next (unary16 State.d State.setD shiftLeft s)

/-- LSL (45_shift_rotate.md R610), the assembler's name for a ASL (30 R111). -/
def execLsl (ea : Xea) (s : State) : Host.Outcome State Fault Refusal := .next (modify8 shiftLeft ea s)

/-- LSLW (45_shift_rotate.md R614), the assembler's name for a ASLW (30 R111). -/
def execLslw (ea : Xea) (s : State) : Host.Outcome State Fault Refusal := .next (modify16 shiftLeft ea s)

/-- LSLA (45_shift_rotate.md R611), the assembler's name for a ASLA (30 R111). -/
def execLsla (s : State) : Host.Outcome State Fault Refusal := .next (unary8 State.a State.setA shiftLeft s)

/-- LSLB (45_shift_rotate.md R612), the assembler's name for a ASLB (30 R111). -/
def execLslb (s : State) : Host.Outcome State Fault Refusal := .next (unary8 State.b State.setB shiftLeft s)

/-- LSLX (45_shift_rotate.md R615), the assembler's name for a ASLX (30 R111). -/
def execLslx (s : State) : Host.Outcome State Fault Refusal := .next (unary16 State.x State.setX shiftLeft s)

/-- LSLY (45_shift_rotate.md R616), the assembler's name for a ASLY (30 R111). -/
def execLsly (s : State) : Host.Outcome State Fault Refusal := .next (unary16 State.y State.setY shiftLeft s)

/-- LSLD (45_shift_rotate.md R613), the assembler's name for a ASLD (30 R111). -/
def execLsld (s : State) : Host.Outcome State Fault Refusal := .next (unary16 State.d State.setD shiftLeft s)

/-- ASR (45_shift_rotate.md R617). -/
def execAsr (ea : Xea) (s : State) : Host.Outcome State Fault Refusal := .next (modify8 arithmeticRight ea s)

/-- ASRW (45_shift_rotate.md R620). -/
def execAsrw (ea : Xea) (s : State) : Host.Outcome State Fault Refusal := .next (modify16 arithmeticRight ea s)

/-- ASRA (45_shift_rotate.md R618). -/
def execAsra (s : State) : Host.Outcome State Fault Refusal := .next (unary8 State.a State.setA arithmeticRight s)

/-- ASRB (45_shift_rotate.md R619). -/
def execAsrb (s : State) : Host.Outcome State Fault Refusal := .next (unary8 State.b State.setB arithmeticRight s)

/-- ASRX (45_shift_rotate.md R621). -/
def execAsrx (s : State) : Host.Outcome State Fault Refusal := .next (unary16 State.x State.setX arithmeticRight s)

/-- ASRY (45_shift_rotate.md R622). -/
def execAsry (s : State) : Host.Outcome State Fault Refusal := .next (unary16 State.y State.setY arithmeticRight s)

/-- LSR (45_shift_rotate.md R623). -/
def execLsr (ea : Xea) (s : State) : Host.Outcome State Fault Refusal := .next (modify8 logicalRight ea s)

/-- LSRW (45_shift_rotate.md R627). -/
def execLsrw (ea : Xea) (s : State) : Host.Outcome State Fault Refusal := .next (modify16 logicalRight ea s)

/-- LSRA (45_shift_rotate.md R624). -/
def execLsra (s : State) : Host.Outcome State Fault Refusal := .next (unary8 State.a State.setA logicalRight s)

/-- LSRB (45_shift_rotate.md R625). -/
def execLsrb (s : State) : Host.Outcome State Fault Refusal := .next (unary8 State.b State.setB logicalRight s)

/-- LSRX (45_shift_rotate.md R628). -/
def execLsrx (s : State) : Host.Outcome State Fault Refusal := .next (unary16 State.x State.setX logicalRight s)

/-- LSRY (45_shift_rotate.md R629). -/
def execLsry (s : State) : Host.Outcome State Fault Refusal := .next (unary16 State.y State.setY logicalRight s)

/-- LSRD (45_shift_rotate.md R626). -/
def execLsrd (s : State) : Host.Outcome State Fault Refusal := .next (unary16 State.d State.setD logicalRight s)

/-- ROL (45_shift_rotate.md R630). -/
def execRol (ea : Xea) (s : State) : Host.Outcome State Fault Refusal := .next (modify8 rotateLeft ea s)

/-- ROLW (45_shift_rotate.md R633). -/
def execRolw (ea : Xea) (s : State) : Host.Outcome State Fault Refusal := .next (modify16 rotateLeft ea s)

/-- ROLA (45_shift_rotate.md R631). -/
def execRola (s : State) : Host.Outcome State Fault Refusal := .next (unary8 State.a State.setA rotateLeft s)

/-- ROLB (45_shift_rotate.md R632). -/
def execRolb (s : State) : Host.Outcome State Fault Refusal := .next (unary8 State.b State.setB rotateLeft s)

/-- ROLX (45_shift_rotate.md R634). -/
def execRolx (s : State) : Host.Outcome State Fault Refusal := .next (unary16 State.x State.setX rotateLeft s)

/-- ROLY (45_shift_rotate.md R635). -/
def execRoly (s : State) : Host.Outcome State Fault Refusal := .next (unary16 State.y State.setY rotateLeft s)

/-- ROR (45_shift_rotate.md R636). -/
def execRor (ea : Xea) (s : State) : Host.Outcome State Fault Refusal := .next (modify8 rotateRight ea s)

/-- RORW (45_shift_rotate.md R639). -/
def execRorw (ea : Xea) (s : State) : Host.Outcome State Fault Refusal := .next (modify16 rotateRight ea s)

/-- RORA (45_shift_rotate.md R637). -/
def execRora (s : State) : Host.Outcome State Fault Refusal := .next (unary8 State.a State.setA rotateRight s)

/-- RORB (45_shift_rotate.md R638). -/
def execRorb (s : State) : Host.Outcome State Fault Refusal := .next (unary8 State.b State.setB rotateRight s)

/-- RORX (45_shift_rotate.md R640). -/
def execRorx (s : State) : Host.Outcome State Fault Refusal := .next (unary16 State.x State.setX rotateRight s)

/-- RORY (45_shift_rotate.md R641). -/
def execRory (s : State) : Host.Outcome State Fault Refusal := .next (unary16 State.y State.setY rotateRight s)

end Sys2Proof.Machine
end

