-- ==== Sys2Proof/Machine/Stack.lean ====
section
/-! DEFINITION. Pushes and pulls (48_stack_ccr_system.md R760 to R774). -/

namespace Sys2Proof.Machine

/-- PSHA (48_stack_ccr_system.md R761). -/
def execPsha (s : State) : Host.Outcome State Fault Refusal := .next (s.pushByte s.a)

/-- PSHB (48_stack_ccr_system.md R762). -/
def execPshb (s : State) : Host.Outcome State Fault Refusal := .next (s.pushByte s.b)

/-- PSHC (48_stack_ccr_system.md R763). -/
def execPshc (s : State) : Host.Outcome State Fault Refusal := .next (s.pushByte s.ccr)

/-- PSHCW (48_stack_ccr_system.md R764). -/
def execPshcw (s : State) : Host.Outcome State Fault Refusal := .next (s.pushWord s.ccrw)

/-- PSHD (48_stack_ccr_system.md R765). -/
def execPshd (s : State) : Host.Outcome State Fault Refusal := .next (s.pushWord s.d)

/-- PSHX (48_stack_ccr_system.md R766). -/
def execPshx (s : State) : Host.Outcome State Fault Refusal := .next (s.pushWord s.x)

/-- PSHY (48_stack_ccr_system.md R767). -/
def execPshy (s : State) : Host.Outcome State Fault Refusal := .next (s.pushWord s.y)

/-- PULA (48_stack_ccr_system.md R768). -/
def execPula (s : State) : Host.Outcome State Fault Refusal := .next ((s.drop 1).setA (s.readByte s.sp))

/-- PULB (48_stack_ccr_system.md R769). -/
def execPulb (s : State) : Host.Outcome State Fault Refusal := .next ((s.drop 1).setB (s.readByte s.sp))

/-- PULC (48_stack_ccr_system.md R770). -/
def execPulc (s : State) : Host.Outcome State Fault Refusal := .next ((s.drop 1).writeCcr (s.readByte s.sp))

/-- PULCW (48_stack_ccr_system.md R771). -/
def execPulcw (s : State) : Host.Outcome State Fault Refusal := .next ((s.drop 2).writeCcrw (s.readWord s.sp))

/-- PULD (48_stack_ccr_system.md R772). -/
def execPuld (s : State) : Host.Outcome State Fault Refusal := .next ((s.drop 2).setD (s.readWord s.sp))

/-- PULX (48_stack_ccr_system.md R773). -/
def execPulx (s : State) : Host.Outcome State Fault Refusal := .next ((s.drop 2).setX (s.readWord s.sp))

/-- PULY (48_stack_ccr_system.md R774). -/
def execPuly (s : State) : Host.Outcome State Fault Refusal := .next ((s.drop 2).setY (s.readWord s.sp))

end Sys2Proof.Machine
end

