-- ==== Sys2Proof/Machine/System.lean ====
section
/-! DEFINITION. Condition-code, null, background, software-interrupt, trap, return, stop and wait instructions (48_stack_ccr_system.md R775 to R790). -/

namespace Sys2Proof.Machine

/-- ANDCC (48_stack_ccr_system.md R775). -/
def execAndcc (mask : Byte) (s : State) : Host.Outcome State Fault Refusal := .next (s.writeCcr (s.ccr &&& mask))

/-- ORCC (48_stack_ccr_system.md R776). -/
def execOrcc (mask : Byte) (s : State) : Host.Outcome State Fault Refusal := .next (s.writeCcr (s.ccr ||| mask))

/-- CLC (48_stack_ccr_system.md R777), the assembler's name for a ANDCC (30 R111). -/
def execClc (s : State) : Host.Outcome State Fault Refusal := .next (s.writeCcr (s.ccr &&& 0xFE#8))

/-- CLI (48_stack_ccr_system.md R778), the assembler's name for a ANDCC (30 R111). -/
def execCli (s : State) : Host.Outcome State Fault Refusal := .next (s.writeCcr (s.ccr &&& 0xEF#8))

/-- CLV (48_stack_ccr_system.md R779), the assembler's name for a ANDCC (30 R111). -/
def execClv (s : State) : Host.Outcome State Fault Refusal := .next (s.writeCcr (s.ccr &&& 0xFD#8))

/-- SEC (48_stack_ccr_system.md R780), the assembler's name for a ORCC (30 R111). -/
def execSec (s : State) : Host.Outcome State Fault Refusal := .next (s.writeCcr (s.ccr ||| 0x01#8))

/-- SEI (48_stack_ccr_system.md R781), the assembler's name for a ORCC (30 R111). -/
def execSei (s : State) : Host.Outcome State Fault Refusal := .next (s.writeCcr (s.ccr ||| 0x10#8))

/-- SEV (48_stack_ccr_system.md R782), the assembler's name for a ORCC (30 R111). -/
def execSev (s : State) : Host.Outcome State Fault Refusal := .next (s.writeCcr (s.ccr ||| 0x02#8))

/-- NOP (48_stack_ccr_system.md R783). -/
def execNop (s : State) : Host.Outcome State Fault Refusal := .next s

/-- BGND (48_stack_ccr_system.md R784): TMP2 holds the resume address (log 32). -/
def execBgnd (s : State) : Host.Outcome State Fault Refusal :=
  let t := s.setTmp2 s.pc
  .next (if s.device.bdmEnabled then t.setRun .background else t)

/-- SWI (48_stack_ccr_system.md R785). -/
def execSwi (s : State) : Host.Outcome State Fault Refusal := .next (s.enter 0xF6 s.pc .trap)

/-- TRAP (48_stack_ccr_system.md R786). -/
def execTrap (tn : Byte) (s : State) : Host.Outcome State Fault Refusal :=
  if isTrapCode tn then .next (s.enter 0xF8 s.pc .trap) else .refused .reservedForm

/-- RTI (48_stack_ccr_system.md R787). -/
def execRti (s : State) : Host.Outcome State Fault Refusal := .next s.returnFromInterrupt

/-- STOP (48_stack_ccr_system.md R788): a NOP when S = 1. -/
def execStop (s : State) : Host.Outcome State Fault Refusal :=
  if s.ccr.getLsbD 7 then .next s else .next ((s.pushFrame s.pc).setRun .stopped)

/-- WAI (48_stack_ccr_system.md R789). -/
def execWai (s : State) : Host.Outcome State Fault Refusal := .next ((s.pushFrame s.pc).setRun .waiting)

end Sys2Proof.Machine
end

