-- ==== Sys2Proof/Machine/Transfer.lean ====
section
/-! DEFINITION. Transfer, exchange and sign-extend (41_transfer_exchange.md). -/

namespace Sys2Proof.Machine

/-- The byte registers and register halves that eb names (41_transfer_exchange.md R303, R304, R307, R308). -/
inductive ByteLoc where
  | a | b | ccrl | ccrh | tmp2h | tmp2l | tmp3h | tmp3l | xh | xl | yh | yl | sph | spl
  deriving DecidableEq, Repr

/-- The word registers that eb names (41_transfer_exchange.md R303, R304, R307, R308). -/
inductive WordLoc where
  | ccrw | tmp1 | tmp2 | tmp3 | d | x | y | sp
  deriving DecidableEq, Repr

/-- A byte location's value; a half of a TMP register reads as an unspecified value (10_state.md R36; log 5). -/
def ByteLoc.read (l : ByteLoc) (s : State) : Byte :=
  match l with
  | .a => s.a
  | .b => s.b
  | .ccrl => s.ccr
  | .ccrh => s.ccrh
  | .tmp2h | .tmp3h => hiByte s.freeWord
  | .tmp2l | .tmp3l => loByte s.freeWord
  | .xh => hiByte s.x
  | .xl => loByte s.x
  | .yh => hiByte s.y
  | .yl => loByte s.y
  | .sph => hiByte s.sp
  | .spl => loByte s.sp

/-- A word location's value; a TMP register reads as an unspecified value (10_state.md R36; log 5). -/
def WordLoc.read (l : WordLoc) (s : State) : Word :=
  match l with
  | .ccrw => s.ccrw
  | .tmp1 | .tmp2 | .tmp3 => s.freeWord
  | .d => s.d
  | .x => s.x
  | .y => s.y
  | .sp => s.sp

/-- Reading a half of a TMP register uses a free value. -/
def ByteLoc.touch (l : ByteLoc) (s : State) : State :=
  match l with
  | .tmp2h | .tmp2l | .tmp3h | .tmp3l => s.useFree
  | .a | .b | .ccrl | .ccrh | .xh | .xl | .yh | .yl | .sph | .spl => s

/-- Reading a TMP register uses a free value. -/
def WordLoc.touch (l : WordLoc) (s : State) : State :=
  match l with
  | .tmp1 | .tmp2 | .tmp3 => s.useFree
  | .ccrw | .d | .x | .y | .sp => s

/-- Write a byte location: the other half of a register stays; CCR under R302. -/
def ByteLoc.write (l : ByteLoc) (s : State) (v : Byte) : State :=
  match l with
  | .a => s.setA v
  | .b => s.setB v
  | .ccrl => s.writeCcr v
  | .ccrh => s.writeCcrh v
  | .tmp2h => s.setTmp2 (wordOf v (loByte s.tmp2))
  | .tmp2l => s.setTmp2 (wordOf (hiByte s.tmp2) v)
  | .tmp3h => s.setTmp3 (wordOf v (loByte s.tmp3))
  | .tmp3l => s.setTmp3 (wordOf (hiByte s.tmp3) v)
  | .xh => s.setX (wordOf v (loByte s.x))
  | .xl => s.setX (wordOf (hiByte s.x) v)
  | .yh => s.setY (wordOf v (loByte s.y))
  | .yl => s.setY (wordOf (hiByte s.y) v)
  | .sph => s.setSp (wordOf v (loByte s.sp))
  | .spl => s.setSp (wordOf (hiByte s.sp) v)

/-- Write a word location; CCRW under R302. -/
def WordLoc.write (l : WordLoc) (s : State) (v : Word) : State :=
  match l with
  | .ccrw => s.writeCcrw v
  | .tmp1 => s.setTmp1 v
  | .tmp2 => s.setTmp2 v
  | .tmp3 => s.setTmp3 v
  | .d => s.setD v
  | .x => s.setX v
  | .y => s.setY v
  | .sp => s.setSp v

/-- What a cell of the TFR tables does (41_transfer_exchange.md R303, R304). -/
inductive Transfer where
  /-- A byte into a byte register or half. -/
  | byte (src dst : ByteLoc)
  /-- A word into a word register. -/
  | word (src dst : WordLoc)
  /-- `sext(r)` into a word register. -/
  | extend (src : ByteLoc) (dst : WordLoc)
  /-- `sexD` into a word register. -/
  | signD (dst : WordLoc)
  deriving DecidableEq, Repr

/-- The low byte that a source code names in the original set (41 R303: columns A, B, CCR). -/
def lowSource : RegCode → ByteLoc
  | .a => .a
  | .b => .b
  | .ccr => .ccrl
  | .tmp => .tmp3l
  | .d => .b
  | .x => .xl
  | .y => .yl
  | .sp => .spl

/-- The high byte that a source code names in the extended set (41 R304: column A); D gives its low byte. -/
def highSource : RegCode → ByteLoc
  | .a => .a
  | .b => .b
  | .ccr => .ccrh
  | .tmp => .tmp3h
  | .d => .b
  | .x => .xh
  | .y => .yh
  | .sp => .sph

/-- A transfer into a word register in the original set (41 R303: columns TMP2, D, X, Y, SP). -/
def wideTransfer (src : RegCode) (dst : WordLoc) : Transfer :=
  match src with
  | .a => .extend .a dst
  | .b => .extend .b dst
  | .ccr => .extend .ccrl dst
  | .tmp => .word .tmp3 dst
  | .d => .word .d dst
  | .x => .word .x dst
  | .y => .word .y dst
  | .sp => .word .sp dst

/-- A transfer from a word source in the extended set (41 R304: rows CCR, TMPx, X, Y, SP and, but for X and Y, D). -/
def wordTransfer (src : RegCode) (dst : WordLoc) (fromA fromB fromD : Transfer) (tmp : WordLoc) : Transfer :=
  match src with
  | .a => fromA
  | .b => fromB
  | .d => fromD
  | .ccr => .word .ccrw dst
  | .tmp => .word tmp dst
  | .x => .word .x dst
  | .y => .word .y dst
  | .sp => .word .sp dst

/-- The TFR tables (41_transfer_exchange.md R303 for the original set, R304 for the extended set). -/
def transferCase (extended : Bool) (src dst : RegCode) : Transfer :=
  if extended then
    match dst with
    | .a => .byte (highSource src) .a
    | .b => .byte (lowSource src) .b
    | .ccr => wordTransfer src .ccrw (.byte .a .ccrh) (.byte .b .ccrl) (.word .d .ccrw) .tmp3
    | .tmp => wordTransfer src .tmp2 (.byte .a .tmp2h) (.byte .b .tmp2l) (.word .d .tmp1) .tmp3
    | .d => wordTransfer src .d (.extend .a .d) (.extend .b .d) (.word .d .d) .tmp1
    | .x => wordTransfer src .x (.byte .a .xh) (.byte .b .xl) (.signD .x) .tmp3
    | .y => wordTransfer src .y (.byte .a .yh) (.byte .b .yl) (.signD .y) .tmp3
    | .sp => wordTransfer src .sp (.byte .a .sph) (.byte .b .spl) (.word .d .sp) .tmp3
  else
    match dst with
    | .a => .byte (lowSource src) .a
    | .b => .byte (lowSource src) .b
    | .ccr => .byte (lowSource src) .ccrl
    | .tmp => wideTransfer src .tmp2
    | .d => wideTransfer src .d
    | .x => wideTransfer src .x
    | .y => wideTransfer src .y
    | .sp => wideTransfer src .sp

/-- Carry out a transfer: `v <- source; destination <- v` (41_transfer_exchange.md R305). -/
def Transfer.run (c : Transfer) (s : State) : State :=
  match c with
  | .byte src dst => dst.write (src.touch s) (src.read s)
  | .word src dst => dst.write (src.touch s) (src.read s)
  | .extend src dst => dst.write (src.touch s) (sext8 (src.read s))
  | .signD dst => dst.write s (signWord s.d)

/-- What a cell of the EXG tables does (41_transfer_exchange.md R307, R308). -/
inductive Exchange where
  /-- Two byte registers or halves exchange. -/
  | bytes (p q : ByteLoc)
  /-- Two word registers exchange. -/
  | words (p q : WordLoc)
  /-- `fill:r8 ⇒ r16`, the low byte of r16 ⇒ r8. -/
  | mixed (r8 : ByteLoc) (low : ByteLoc) (r16 : WordLoc) (fill : Byte)
  /-- `$00:r8 ⇒ D` alone: A or B with D. -/
  | intoD (r8 : ByteLoc)
  /-- `$FF ⇒ A; B ⇒ B`: D with B. -/
  | fillA
  deriving DecidableEq, Repr

/-- An exchange of an 8-bit first operand with a word register (41 R307: rows A, B, CCR). -/
def narrowWide (r8 : ByteLoc) (dst : RegCode) : Exchange :=
  match dst with
  | .tmp => .mixed r8 .tmp2l .tmp2 0x00
  | .d => match r8 with
    | .ccrl => .mixed .ccrl .b .d 0x00
    | r => .intoD r
  | .x => .mixed r8 .xl .x 0x00
  | .y => .mixed r8 .yl .y 0x00
  | .sp => .mixed r8 .spl .sp 0x00
  | .a => .bytes r8 .a
  | .b => .bytes r8 .b
  | .ccr => .bytes r8 .ccrl

/-- An exchange of a word first operand in the original set (41 R307: rows TMP3, D, X, Y, SP). -/
def wideFirst (r16 : WordLoc) (low : ByteLoc) (dst : RegCode) : Exchange :=
  match dst with
  | .a => match r16 with
    | .d => .bytes .b .a
    | r => .mixed .a low r 0x00
  | .b => match r16 with
    | .d => .fillA
    | r => .mixed .b low r 0xFF
  | .ccr => .mixed .ccrl low r16 0xFF
  | .tmp => .words r16 .tmp2
  | .d => .words r16 .d
  | .x => .words r16 .x
  | .y => .words r16 .y
  | .sp => .words r16 .sp

/-- An exchange of A or B with a location of the extended set (41 R308: rows A and B). -/
def halfExchange (r8 : ByteLoc) (ccr tmp x y sp : ByteLoc) (dst : RegCode) : Exchange :=
  match dst with
  | .a => .bytes r8 .a
  | .b => .bytes r8 .b
  | .ccr => .bytes r8 ccr
  | .tmp => .bytes r8 tmp
  | .d => .intoD r8
  | .x => .bytes r8 x
  | .y => .bytes r8 y
  | .sp => .bytes r8 sp

/-- An exchange of a word first operand in the extended set (41 R308: rows CCR, TMPx, D, X, Y, SP). -/
def wordExchange (r16 : WordLoc) (withA withB : Exchange) (withTmp withD : Exchange) (dst : RegCode) : Exchange :=
  match dst with
  | .a => withA
  | .b => withB
  | .ccr => .words r16 .ccrw
  | .tmp => withTmp
  | .d => withD
  | .x => .words r16 .x
  | .y => .words r16 .y
  | .sp => .words r16 .sp

/-- The EXG tables (41_transfer_exchange.md R307 for the original set, R308 for the extended set). -/
def exchangeCase (extended : Bool) (src dst : RegCode) : Exchange :=
  if extended then
    match src with
    | .a => halfExchange .a .ccrh .tmp2h .xh .yh .sph dst
    | .b => halfExchange .b .ccrl .tmp2l .xl .yl .spl dst
    | .ccr => wordExchange .ccrw (.bytes .ccrh .a) (.bytes .ccrl .b) (.words .ccrw .tmp2) (.words .ccrw .d) dst
    | .tmp => wordExchange .tmp3 (.bytes .tmp3h .a) (.bytes .tmp3l .b) (.words .tmp3 .tmp2) (.words .tmp1 .d) dst
    | .d => wordExchange .d (.bytes .b .a) .fillA (.words .d .tmp1) (.words .d .d) dst
    | .x => wordExchange .x (.bytes .xh .a) (.bytes .xl .b) (.words .x .tmp2) (.words .x .d) dst
    | .y => wordExchange .y (.bytes .yh .a) (.bytes .yl .b) (.words .y .tmp2) (.words .y .d) dst
    | .sp => wordExchange .sp (.bytes .sph .a) (.bytes .spl .b) (.words .sp .tmp2) (.words .sp .d) dst
  else
    match src with
    | .a => narrowWide .a dst
    | .b => narrowWide .b dst
    | .ccr => narrowWide .ccrl dst
    | .tmp => wideFirst .tmp3 .tmp3l dst
    | .d => wideFirst .d .b dst
    | .x => wideFirst .x .xl dst
    | .y => wideFirst .y .yl dst
    | .sp => wideFirst .sp .spl dst

/-- Carry out an exchange: both are read first, then both written (41_transfer_exchange.md R309). -/
def Exchange.run (c : Exchange) (s : State) : State :=
  match c with
  | .bytes p q =>
    let t := p.touch s
    let u := q.touch t
    q.write (p.write u (q.read t)) (p.read s)
  | .words p q =>
    let t := p.touch s
    let u := q.touch t
    q.write (p.write u (q.read t)) (p.read s)
  | .mixed r8 low r16 fill =>
    let t := low.touch s
    r8.write (r16.write t (wordOf fill (r8.read s))) (low.read s)
  | .intoD r8 => s.setD (zext8 (r8.read s))
  | .fillA => s.setA 0xFF

/-- TFR (41_transfer_exchange.md R305). -/
def execTfr (extended : Bool) (src : RegCode) (dst : RegCode) (s : State) : Host.Outcome State Fault Refusal :=
  .next ((transferCase extended src dst).run s)

/-- EXG (41_transfer_exchange.md R309). -/
def execExg (extended : Bool) (src : RegCode) (dst : RegCode) (s : State) : Host.Outcome State Fault Refusal :=
  .next ((exchangeCase extended src dst).run s)

/-- The 8-bit source of SEX (41_transfer_exchange.md R306). -/
def sexValue (src : SexSrc) (s : State) : Byte :=
  match src with
  | .a => s.a
  | .b => s.b
  | .ccr => s.ccr

/-- The destination of SEX (41_transfer_exchange.md R306). -/
def sexWrite (dst : SexDst) (s : State) (v : Word) : State :=
  match dst with
  | .tmp2 => s.setTmp2 v
  | .d => s.setD v
  | .x => s.setX v
  | .y => s.setY v
  | .sp => s.setSp v

/-- SEX (41_transfer_exchange.md R306), the assembler's name for a TFR (30 R111). -/
def execSex (op : SexOp) (s : State) : Host.Outcome State Fault Refusal :=
  match op with
  | .byte src dst => .next (sexWrite dst s (sext8 (sexValue src s)))
  | .aToD => .next (s.setD (sext8 s.a))
  | .bToD => .next (s.setD (sext8 s.b))
  | .dToX => .next (s.setX (signWord s.d))
  | .dToY => .next (s.setY (signWord s.d))

/-- TAB (41_transfer_exchange.md R310). -/
def execTab (s : State) : Host.Outcome State Fault Refusal := .next ((s.setB s.a).setCcr (logicFlags s.a s.ccr))

/-- TBA (41_transfer_exchange.md R311). -/
def execTba (s : State) : Host.Outcome State Fault Refusal := .next ((s.setA s.b).setCcr (logicFlags s.b s.ccr))

/-- TAP (41_transfer_exchange.md R312), the assembler's name for a TFR (30 R111). -/
def execTap (s : State) : Host.Outcome State Fault Refusal := .next (s.writeCcr s.a)

/-- TPA (41_transfer_exchange.md R313), the assembler's name for a TFR (30 R111). -/
def execTpa (s : State) : Host.Outcome State Fault Refusal := .next (s.setA s.ccr)

/-- TSX (41_transfer_exchange.md R314), the assembler's name for a TFR (30 R111). -/
def execTsx (s : State) : Host.Outcome State Fault Refusal := .next (s.setX s.sp)

/-- TSY (41_transfer_exchange.md R315), the assembler's name for a TFR (30 R111). -/
def execTsy (s : State) : Host.Outcome State Fault Refusal := .next (s.setY s.sp)

/-- TXS (41_transfer_exchange.md R316), the assembler's name for a TFR (30 R111). -/
def execTxs (s : State) : Host.Outcome State Fault Refusal := .next (s.setSp s.x)

/-- TYS (41_transfer_exchange.md R317), the assembler's name for a TFR (30 R111). -/
def execTys (s : State) : Host.Outcome State Fault Refusal := .next (s.setSp s.y)

/-- XGDX (41_transfer_exchange.md R318), the assembler's name for a EXG (30 R111). -/
def execXgdx (s : State) : Host.Outcome State Fault Refusal := .next ((s.setD s.x).setX s.d)

/-- XGDY (41_transfer_exchange.md R319), the assembler's name for a EXG (30 R111). -/
def execXgdy (s : State) : Host.Outcome State Fault Refusal := .next ((s.setD s.y).setY s.d)

end Sys2Proof.Machine
end

