-- ==== Sys2Proof/Machine/Dispatch.lean ====
section
/-! DEFINITION. The meaning of every instruction: one arm per constructor of `Instr`, in the order of opcode_table.json. -/

namespace Sys2Proof.Machine

open Sys2Proof

/-- What an instruction does; PC is already PCnext (00_scope.md R14). -/
def exec (i : Instr) (s : State) : Host.Outcome State Fault Refusal :=
  match i with
  | .ldaa src => Sys2Proof.Machine.execLdaa src s
  | .ldab src => Sys2Proof.Machine.execLdab src s
  | .ldd src => Sys2Proof.Machine.execLdd src s
  | .lds src => Sys2Proof.Machine.execLds src s
  | .ldx src => Sys2Proof.Machine.execLdx src s
  | .ldy src => Sys2Proof.Machine.execLdy src s
  | .staa ea => Sys2Proof.Machine.execStaa ea s
  | .stab ea => Sys2Proof.Machine.execStab ea s
  | .std ea => Sys2Proof.Machine.execStd ea s
  | .sts ea => Sys2Proof.Machine.execSts ea s
  | .stx ea => Sys2Proof.Machine.execStx ea s
  | .sty ea => Sys2Proof.Machine.execSty ea s
  | .leas idx => Sys2Proof.Machine.execLeas idx s
  | .leax idx => Sys2Proof.Machine.execLeax idx s
  | .leay idx => Sys2Proof.Machine.execLeay idx s
  | .abx => Sys2Proof.Machine.execAbx s
  | .aby => Sys2Proof.Machine.execAby s
  | .des => Sys2Proof.Machine.execDes s
  | .ins => Sys2Proof.Machine.execIns s
  | .gldaa ea => Sys2Proof.Machine.execGldaa ea s
  | .gldab ea => Sys2Proof.Machine.execGldab ea s
  | .gldd ea => Sys2Proof.Machine.execGldd ea s
  | .glds ea => Sys2Proof.Machine.execGlds ea s
  | .gldx ea => Sys2Proof.Machine.execGldx ea s
  | .gldy ea => Sys2Proof.Machine.execGldy ea s
  | .gstaa ea => Sys2Proof.Machine.execGstaa ea s
  | .gstab ea => Sys2Proof.Machine.execGstab ea s
  | .gstd ea => Sys2Proof.Machine.execGstd ea s
  | .gsts ea => Sys2Proof.Machine.execGsts ea s
  | .gstx ea => Sys2Proof.Machine.execGstx ea s
  | .gsty ea => Sys2Proof.Machine.execGsty ea s
  | .aba => Sys2Proof.Machine.execAba s
  | .adca src => Sys2Proof.Machine.execAdca src s
  | .adcb src => Sys2Proof.Machine.execAdcb src s
  | .adda src => Sys2Proof.Machine.execAdda src s
  | .addb src => Sys2Proof.Machine.execAddb src s
  | .addd src => Sys2Proof.Machine.execAddd src s
  | .addx src => Sys2Proof.Machine.execAddx src s
  | .addy src => Sys2Proof.Machine.execAddy src s
  | .aded src => Sys2Proof.Machine.execAded src s
  | .adex src => Sys2Proof.Machine.execAdex src s
  | .adey src => Sys2Proof.Machine.execAdey src s
  | .sba => Sys2Proof.Machine.execSba s
  | .sbca src => Sys2Proof.Machine.execSbca src s
  | .sbcb src => Sys2Proof.Machine.execSbcb src s
  | .suba src => Sys2Proof.Machine.execSuba src s
  | .subb src => Sys2Proof.Machine.execSubb src s
  | .subd src => Sys2Proof.Machine.execSubd src s
  | .subx src => Sys2Proof.Machine.execSubx src s
  | .suby src => Sys2Proof.Machine.execSuby src s
  | .sbed src => Sys2Proof.Machine.execSbed src s
  | .sbex src => Sys2Proof.Machine.execSbex src s
  | .sbey src => Sys2Proof.Machine.execSbey src s
  | .cba => Sys2Proof.Machine.execCba s
  | .cmpa src => Sys2Proof.Machine.execCmpa src s
  | .cmpb src => Sys2Proof.Machine.execCmpb src s
  | .cpd src => Sys2Proof.Machine.execCpd src s
  | .cps src => Sys2Proof.Machine.execCps src s
  | .cpx src => Sys2Proof.Machine.execCpx src s
  | .cpy src => Sys2Proof.Machine.execCpy src s
  | .cped src => Sys2Proof.Machine.execCped src s
  | .cpes src => Sys2Proof.Machine.execCpes src s
  | .cpex src => Sys2Proof.Machine.execCpex src s
  | .cpey src => Sys2Proof.Machine.execCpey src s
  | .daa => Sys2Proof.Machine.execDaa s
  | .anda src => Sys2Proof.Machine.execAnda src s
  | .andb src => Sys2Proof.Machine.execAndb src s
  | .andx src => Sys2Proof.Machine.execAndx src s
  | .andy src => Sys2Proof.Machine.execAndy src s
  | .bita src => Sys2Proof.Machine.execBita src s
  | .bitb src => Sys2Proof.Machine.execBitb src s
  | .bitx src => Sys2Proof.Machine.execBitx src s
  | .bity src => Sys2Proof.Machine.execBity src s
  | .eora src => Sys2Proof.Machine.execEora src s
  | .eorb src => Sys2Proof.Machine.execEorb src s
  | .eorx src => Sys2Proof.Machine.execEorx src s
  | .eory src => Sys2Proof.Machine.execEory src s
  | .oraa src => Sys2Proof.Machine.execOraa src s
  | .orab src => Sys2Proof.Machine.execOrab src s
  | .orx src => Sys2Proof.Machine.execOrx src s
  | .ory src => Sys2Proof.Machine.execOry src s
  | .bclr ea mask => Sys2Proof.Machine.execBclr ea mask s
  | .bset ea mask => Sys2Proof.Machine.execBset ea mask s
  | .btas ea mask => Sys2Proof.Machine.execBtas ea mask s
  | .clr ea => Sys2Proof.Machine.execClr ea s
  | .clra => Sys2Proof.Machine.execClra s
  | .clrb => Sys2Proof.Machine.execClrb s
  | .clrw ea => Sys2Proof.Machine.execClrw ea s
  | .clrx => Sys2Proof.Machine.execClrx s
  | .clry => Sys2Proof.Machine.execClry s
  | .com ea => Sys2Proof.Machine.execCom ea s
  | .coma => Sys2Proof.Machine.execComa s
  | .comb => Sys2Proof.Machine.execComb s
  | .comw ea => Sys2Proof.Machine.execComw ea s
  | .comx => Sys2Proof.Machine.execComx s
  | .comy => Sys2Proof.Machine.execComy s
  | .neg ea => Sys2Proof.Machine.execNeg ea s
  | .nega => Sys2Proof.Machine.execNega s
  | .negb => Sys2Proof.Machine.execNegb s
  | .negw ea => Sys2Proof.Machine.execNegw ea s
  | .negx => Sys2Proof.Machine.execNegx s
  | .negy => Sys2Proof.Machine.execNegy s
  | .dec ea => Sys2Proof.Machine.execDec ea s
  | .deca => Sys2Proof.Machine.execDeca s
  | .decb => Sys2Proof.Machine.execDecb s
  | .decw ea => Sys2Proof.Machine.execDecw ea s
  | .decx => Sys2Proof.Machine.execDecx s
  | .decy => Sys2Proof.Machine.execDecy s
  | .dex => Sys2Proof.Machine.execDex s
  | .dey => Sys2Proof.Machine.execDey s
  | .inc ea => Sys2Proof.Machine.execInc ea s
  | .inca => Sys2Proof.Machine.execInca s
  | .incb => Sys2Proof.Machine.execIncb s
  | .incw ea => Sys2Proof.Machine.execIncw ea s
  | .incx => Sys2Proof.Machine.execIncx s
  | .incy => Sys2Proof.Machine.execIncy s
  | .inx => Sys2Proof.Machine.execInx s
  | .iny => Sys2Proof.Machine.execIny s
  | .tst ea => Sys2Proof.Machine.execTst ea s
  | .tsta => Sys2Proof.Machine.execTsta s
  | .tstb => Sys2Proof.Machine.execTstb s
  | .tstw ea => Sys2Proof.Machine.execTstw ea s
  | .tstx => Sys2Proof.Machine.execTstx s
  | .tsty => Sys2Proof.Machine.execTsty s
  | .asl ea => Sys2Proof.Machine.execAsl ea s
  | .asla => Sys2Proof.Machine.execAsla s
  | .aslb => Sys2Proof.Machine.execAslb s
  | .asld => Sys2Proof.Machine.execAsld s
  | .aslw ea => Sys2Proof.Machine.execAslw ea s
  | .aslx => Sys2Proof.Machine.execAslx s
  | .asly => Sys2Proof.Machine.execAsly s
  | .lsl ea => Sys2Proof.Machine.execLsl ea s
  | .lsla => Sys2Proof.Machine.execLsla s
  | .lslb => Sys2Proof.Machine.execLslb s
  | .lsld => Sys2Proof.Machine.execLsld s
  | .lslw ea => Sys2Proof.Machine.execLslw ea s
  | .lslx => Sys2Proof.Machine.execLslx s
  | .lsly => Sys2Proof.Machine.execLsly s
  | .asr ea => Sys2Proof.Machine.execAsr ea s
  | .asra => Sys2Proof.Machine.execAsra s
  | .asrb => Sys2Proof.Machine.execAsrb s
  | .asrw ea => Sys2Proof.Machine.execAsrw ea s
  | .asrx => Sys2Proof.Machine.execAsrx s
  | .asry => Sys2Proof.Machine.execAsry s
  | .lsr ea => Sys2Proof.Machine.execLsr ea s
  | .lsra => Sys2Proof.Machine.execLsra s
  | .lsrb => Sys2Proof.Machine.execLsrb s
  | .lsrd => Sys2Proof.Machine.execLsrd s
  | .lsrw ea => Sys2Proof.Machine.execLsrw ea s
  | .lsrx => Sys2Proof.Machine.execLsrx s
  | .lsry => Sys2Proof.Machine.execLsry s
  | .rol ea => Sys2Proof.Machine.execRol ea s
  | .rola => Sys2Proof.Machine.execRola s
  | .rolb => Sys2Proof.Machine.execRolb s
  | .rolw ea => Sys2Proof.Machine.execRolw ea s
  | .rolx => Sys2Proof.Machine.execRolx s
  | .roly => Sys2Proof.Machine.execRoly s
  | .ror ea => Sys2Proof.Machine.execRor ea s
  | .rora => Sys2Proof.Machine.execRora s
  | .rorb => Sys2Proof.Machine.execRorb s
  | .rorw ea => Sys2Proof.Machine.execRorw ea s
  | .rorx => Sys2Proof.Machine.execRorx s
  | .rory => Sys2Proof.Machine.execRory s
  | .mul => Sys2Proof.Machine.execMul s
  | .emul => Sys2Proof.Machine.execEmul s
  | .emuls => Sys2Proof.Machine.execEmuls s
  | .emacs addr => Sys2Proof.Machine.execEmacs addr s
  | .ediv => Sys2Proof.Machine.execEdiv s
  | .edivs => Sys2Proof.Machine.execEdivs s
  | .idiv => Sys2Proof.Machine.execIdiv s
  | .idivs => Sys2Proof.Machine.execIdivs s
  | .fdiv => Sys2Proof.Machine.execFdiv s
  | .maxa idx => Sys2Proof.Machine.execMaxa idx s
  | .maxm idx => Sys2Proof.Machine.execMaxm idx s
  | .mina idx => Sys2Proof.Machine.execMina idx s
  | .minm idx => Sys2Proof.Machine.execMinm idx s
  | .emaxd idx => Sys2Proof.Machine.execEmaxd idx s
  | .emaxm idx => Sys2Proof.Machine.execEmaxm idx s
  | .emind idx => Sys2Proof.Machine.execEmind idx s
  | .eminm idx => Sys2Proof.Machine.execEminm idx s
  | .tbl idx => Sys2Proof.Machine.execTbl idx s
  | .etbl idx => Sys2Proof.Machine.execEtbl idx s
  | .bcc rel => Sys2Proof.Machine.execBcc rel s
  | .bcs rel => Sys2Proof.Machine.execBcs rel s
  | .beq rel => Sys2Proof.Machine.execBeq rel s
  | .bge rel => Sys2Proof.Machine.execBge rel s
  | .bgt rel => Sys2Proof.Machine.execBgt rel s
  | .bhi rel => Sys2Proof.Machine.execBhi rel s
  | .bhs rel => Sys2Proof.Machine.execBhs rel s
  | .ble rel => Sys2Proof.Machine.execBle rel s
  | .blo rel => Sys2Proof.Machine.execBlo rel s
  | .bls rel => Sys2Proof.Machine.execBls rel s
  | .blt rel => Sys2Proof.Machine.execBlt rel s
  | .bmi rel => Sys2Proof.Machine.execBmi rel s
  | .bne rel => Sys2Proof.Machine.execBne rel s
  | .bpl rel => Sys2Proof.Machine.execBpl rel s
  | .bra rel => Sys2Proof.Machine.execBra rel s
  | .brn rel => Sys2Proof.Machine.execBrn rel s
  | .bvc rel => Sys2Proof.Machine.execBvc rel s
  | .bvs rel => Sys2Proof.Machine.execBvs rel s
  | .lbcc rel => Sys2Proof.Machine.execLbcc rel s
  | .lbcs rel => Sys2Proof.Machine.execLbcs rel s
  | .lbeq rel => Sys2Proof.Machine.execLbeq rel s
  | .lbge rel => Sys2Proof.Machine.execLbge rel s
  | .lbgt rel => Sys2Proof.Machine.execLbgt rel s
  | .lbhi rel => Sys2Proof.Machine.execLbhi rel s
  | .lbhs rel => Sys2Proof.Machine.execLbhs rel s
  | .lble rel => Sys2Proof.Machine.execLble rel s
  | .lblo rel => Sys2Proof.Machine.execLblo rel s
  | .lbls rel => Sys2Proof.Machine.execLbls rel s
  | .lblt rel => Sys2Proof.Machine.execLblt rel s
  | .lbmi rel => Sys2Proof.Machine.execLbmi rel s
  | .lbne rel => Sys2Proof.Machine.execLbne rel s
  | .lbpl rel => Sys2Proof.Machine.execLbpl rel s
  | .lbra rel => Sys2Proof.Machine.execLbra rel s
  | .lbrn rel => Sys2Proof.Machine.execLbrn rel s
  | .lbvc rel => Sys2Proof.Machine.execLbvc rel s
  | .lbvs rel => Sys2Proof.Machine.execLbvs rel s
  | .brclr ea mask rel => Sys2Proof.Machine.execBrclr ea mask rel s
  | .brset ea mask rel => Sys2Proof.Machine.execBrset ea mask rel s
  | .dbeq ctr rel => Sys2Proof.Machine.execDbeq ctr rel s
  | .dbne ctr rel => Sys2Proof.Machine.execDbne ctr rel s
  | .ibeq ctr rel => Sys2Proof.Machine.execIbeq ctr rel s
  | .ibne ctr rel => Sys2Proof.Machine.execIbne ctr rel s
  | .tbeq ctr rel => Sys2Proof.Machine.execTbeq ctr rel s
  | .tbne ctr rel => Sys2Proof.Machine.execTbne ctr rel s
  | .jmp target => Sys2Proof.Machine.execJmp target s
  | .jsr target => Sys2Proof.Machine.execJsr target s
  | .bsr rel => Sys2Proof.Machine.execBsr rel s
  | .call target => Sys2Proof.Machine.execCall target s
  | .rtc => Sys2Proof.Machine.execRtc s
  | .rts => Sys2Proof.Machine.execRts s
  | .psha => Sys2Proof.Machine.execPsha s
  | .pshb => Sys2Proof.Machine.execPshb s
  | .pshc => Sys2Proof.Machine.execPshc s
  | .pshcw => Sys2Proof.Machine.execPshcw s
  | .pshd => Sys2Proof.Machine.execPshd s
  | .pshx => Sys2Proof.Machine.execPshx s
  | .pshy => Sys2Proof.Machine.execPshy s
  | .pula => Sys2Proof.Machine.execPula s
  | .pulb => Sys2Proof.Machine.execPulb s
  | .pulc => Sys2Proof.Machine.execPulc s
  | .pulcw => Sys2Proof.Machine.execPulcw s
  | .puld => Sys2Proof.Machine.execPuld s
  | .pulx => Sys2Proof.Machine.execPulx s
  | .puly => Sys2Proof.Machine.execPuly s
  | .andcc mask => Sys2Proof.Machine.execAndcc mask s
  | .orcc mask => Sys2Proof.Machine.execOrcc mask s
  | .clc => Sys2Proof.Machine.execClc s
  | .cli => Sys2Proof.Machine.execCli s
  | .clv => Sys2Proof.Machine.execClv s
  | .sec => Sys2Proof.Machine.execSec s
  | .sei => Sys2Proof.Machine.execSei s
  | .sev => Sys2Proof.Machine.execSev s
  | .nop => Sys2Proof.Machine.execNop s
  | .bgnd => Sys2Proof.Machine.execBgnd s
  | .swi => Sys2Proof.Machine.execSwi s
  | .rti => Sys2Proof.Machine.execRti s
  | .stop => Sys2Proof.Machine.execStop s
  | .wai => Sys2Proof.Machine.execWai s
  | .mem => Sys2Proof.Machine.execMem s
  | .rev => Sys2Proof.Machine.execRev s
  | .revw => Sys2Proof.Machine.execRevw s
  | .wav => Sys2Proof.Machine.execWav s
  | .tfr extended src dst => Sys2Proof.Machine.execTfr extended src dst s
  | .sex op => Sys2Proof.Machine.execSex op s
  | .exg extended src dst => Sys2Proof.Machine.execExg extended src dst s
  | .tab => Sys2Proof.Machine.execTab s
  | .tba => Sys2Proof.Machine.execTba s
  | .tap => Sys2Proof.Machine.execTap s
  | .tpa => Sys2Proof.Machine.execTpa s
  | .tsx => Sys2Proof.Machine.execTsx s
  | .tsy => Sys2Proof.Machine.execTsy s
  | .txs => Sys2Proof.Machine.execTxs s
  | .tys => Sys2Proof.Machine.execTys s
  | .xgdx => Sys2Proof.Machine.execXgdx s
  | .xgdy => Sys2Proof.Machine.execXgdy s
  | .movb src dst => Sys2Proof.Machine.execMovb src dst s
  | .movw src dst => Sys2Proof.Machine.execMovw src dst s
  | .trap tn => Sys2Proof.Machine.execTrap tn s
  | .wavr => Sys2Proof.Machine.execWavr s

end Sys2Proof.Machine
end

