-- ==== Sys2Proof/Machine/Fetch.lean ====
section
/-! DEFINITION. Fetching: the bytes at PC, the instruction they decode to, and the refusal of bytes stored since the last
change of flow (20_memory.md R74, R77, 30_encoding.md R109). -/

namespace Sys2Proof.Machine

/-- `n` bytes from a logical address on, which wraps (20_memory.md R61, R74). -/
def State.bytesAt (s : State) (a : Word) : Nat → List Byte
  | 0 => []
  | n + 1 => s.readByte a :: s.bytesAt (a + 1) n

/-- One of the `n` bytes at `a` was stored since the last change of flow (92 D14; log 15). -/
def State.staleAt (s : State) (a : Word) : Nat → Bool
  | 0 => false
  | n + 1 => s.stale.contains a || s.staleAt (a + 1) n

/-- The instruction at PC and its length in bytes; an instruction has at most eight (30_encoding.md R100). -/
def State.fetch (s : State) : Except Refusal (Instr × Nat) :=
  match decode (s.bytesAt s.pc 8) with
  | .error e => .error (.outsideEncoding e)
  | .ok (i, rest) => if s.staleAt s.pc (8 - rest.length) then .error .staleFetch else .ok (i, 8 - rest.length)

/-- PC is PCnext while the instruction runs, and an earlier I delay is over (00_scope.md R14, 60_exceptions.md R822;
log 10). -/
def State.begin (s : State) (length : Nat) : State :=
  { s with pc := s.pc + BitVec.ofNat 16 length, iDelay := false }

/-- Fetch and run the instruction at PC. -/
def runInstruction (s : State) : Host.Outcome State Fault Refusal :=
  match s.fetch with
  | .ok (i, length) => exec i (s.begin length)
  | .error r => .refused r

/-- Bytes placed in memory at the logical addresses from `a` on. -/
def State.placeBytes (s : State) (a : Word) : List Byte → State
  | [] => s
  | v :: rest => State.placeBytes { s with mem := Memory.write s.mem (s.logicalKey a) v } (a + 1) rest

end Sys2Proof.Machine
end

