-- ==== Sys2Proof/Machine/Recognition.lean ====
section
/-! DEFINITION. What the environment does at a recognition point: resets, interrupts, leaving wait, stop and background, and
the suspension of WAV (60_exceptions.md R804 to R816, 48_stack_ccr_system.md R790, 49_fuzzy.md R1000, R1008). -/

namespace Sys2Proof.Machine

/-- The address of a reset vector, fixed whatever the vector base (60_exceptions.md R802, R850). -/
def resetVector : ResetKind → Word
  | .powerOn | .system => 0xFFFE
  | .clockMonitor => 0xFFFC
  | .cop => 0xFFFA

/-- RAM keeps the byte at a physical address over a reset; over power-on it keeps none (70_reset_and_hazards.md R902;
log 49). -/
def Device.retains (dev : Device) (k : ResetKind) (key : Nat) : Bool :=
  k != .powerOn && dev.retained.any fun r => decide (r.kind = k) && decide (r.first ≤ key) && decide (key ≤ r.last)

/-- The byte at a physical address after a reset: ROM keeps it, a device register has its reset content, RAM that does
not retain it holds any value (70_reset_and_hazards.md R902, 93_implementation_defined.md U23; log 49). -/
def State.byteAfterReset (s : State) (k : ResetKind) (key : Nat) : Byte :=
  match regionKind s.device.regions key with
  | .ram => if s.device.retains k key then Memory.read s.mem key else Config.lostByte s.free key
  | .register b => b.atReset
  | .rom | .unimplemented => Memory.read s.mem key

/-- Memory after a reset, byte by byte (70_reset_and_hazards.md R902; log 49). -/
def State.memoryAfterReset (s : State) (k : ResetKind) : List Host.Cell :=
  Memory.tabulate (s.byteAfterReset k) 0 Memory.limit

/-- A reset begins, or is held on: nothing runs, nothing is stacked (70_reset_and_hazards.md R901 step 1; logs 17, 49). -/
def State.holdInReset (s : State) (k : ResetKind) : State :=
  { s with mem := s.memoryAfterReset k, run := .inReset k }

/-- The reset ends: PC from its vector, S, X and I set, IPL 0, the modules' registers at their parameters; the values the
spec calls unspecified are free values (70_reset_and_hazards.md R900, R901 steps 2 to 4, R903; log 18). -/
def State.resetBy (s : State) (k : ResetKind) : State :=
  { s with
    a := Config.freeByte s.free
    b := Config.freeByte (s.free + 1)
    ccr := 0xD0#8 ||| (Config.freeByte (s.free + 2) &&& 0x2F#8)
    x := Config.freeWord s.free
    y := Config.freeWord (s.free + 1)
    sp := Config.freeWord (s.free + 2)
    tmp1 := Config.freeWord (s.free + 3)
    tmp2 := Config.freeWord (s.free + 4)
    tmp3 := Config.freeWord (s.free + 5)
    pc := s.readWord (resetVector k)
    ipl := 0
    ppage := s.device.ppageReset
    gpage := s.device.gpageReset
    direct := s.device.directReset
    vb := s.device.vbReset
    run := .running
    iDelay := false
    stale := []
    free := s.free + 6 }

/-- The candidate is a vector the environment may deliver: an even offset from $10 to $F2 (60_exceptions.md R805). -/
def Request.deliverable (r : Request) : Bool :=
  !r.offset.getLsbD 0 && decide (0x10 ≤ r.offset.toNat) && decide (r.offset.toNat ≤ 0xF2)

/-- A maskable request is qualified: I = 0 and its level above IPL (60_exceptions.md R810, R830). -/
def State.qualifies (s : State) (r : Request) : Bool :=
  r.deliverable && !s.ccr.getLsbD 4 && decide (s.ipl < r.level)

/-- The interrupt recognised with what the environment presents: XIRQ when X = 0 before a qualified maskable request
(60_exceptions.md R804, R810); `delayed` is the boundary after an instruction that cleared I (R822). -/
def State.recognised (s : State) (p : Sample) (delayed : Bool) : Option (Byte × Masking) :=
  if p.xirq && !s.ccr.getLsbD 6 then some (0xF4, ⟨true, s.device.xirqIpl⟩)
  else
    match p.irq with
    | none => none
    | some r => if !delayed && s.qualifies r then some (r.offset, ⟨false, some r.level⟩) else none

/-- One moment of waiting or stopped (48_stack_ccr_system.md R790): an interrupt enters its handler with the frame that
stands; XIRQ with X = 1 goes on behind the WAI or STOP, SP raised over the frame; else nothing ends the state.  Where
XIRQ with X = 1 comes together with a qualified maskable request, the handler goes first: DESIGN CHOICE, log 53. -/
def State.waitMoment (s : State) (p : Sample) : State :=
  match s.recognised p false with
  | some (offset, m) => s.enterFromWait offset m
  | none => if p.xirq then (s.drop 10).setRun .running else s

/-- One moment of background debug mode: only the debug module ends it, and the queue is refilled
(48_stack_ccr_system.md R784, 92 D17; log 32). -/
def State.backgroundMoment (s : State) (p : Sample) : State :=
  if p.debugGo then (s.jumpTo s.pc).setRun .running else s

/-- The next element of a REV in progress; PC stands at its prebyte (49_fuzzy.md R1000, R1003). -/
def continueRev (s : State) : Host.Outcome State Fault Refusal := execRev { s with pc := s.pc + 2 }

/-- The next element of a REVW in progress (49_fuzzy.md R1000, R1004). -/
def continueRevw (s : State) : Host.Outcome State Fault Refusal := execRevw { s with pc := s.pc + 2 }

/-- The environment's part of a step is over: its sample is used up, and a new free value stands ready (logs 13, 16). -/
def State.nextSample (s : State) : State := { s with inputs := s.inputs.tail, free := s.free + 1 }

end Sys2Proof.Machine
end

