-- ==== Sys2Proof/Machine/Accesses.lean ====
section
/-! DEFINITION. The memory accesses of a step, one per byte in the order they happen, and the illegal-address reset that the
device asks for on one of them (60_exceptions.md R851, 92 D10; log 48). -/

namespace Sys2Proof.Machine

/-- One byte access: what it does, its logical address (none in global space), its physical address. -/
structure Access where
  kind : AccessKind
  logical : Option Word
  key : Nat
  deriving DecidableEq, Repr

/-- `illegal_address_reset` of an access (60_exceptions.md R851, 92 D10). -/
def Device.forbids (dev : Device) (c : Access) : Bool :=
  dev.illegal.any fun r => decide (r.kind = c.kind) && decide (r.first ≤ c.key) && decide (c.key ≤ r.last)

/-! ## Accesses of the operations -/

/-- Fetches of the `n` bytes from `a` on. -/
def State.fetches (s : State) (a : Word) : Nat → List Access
  | 0 => []
  | n + 1 => ⟨.fetch, some a, s.logicalKey a⟩ :: s.fetches (a + 1) n

/-- A read of one byte (20_memory.md R62). -/
def State.reads8 (s : State) (a : Word) : List Access := [⟨.read, some a, s.logicalKey a⟩]

/-- A read of one word (20_memory.md R62). -/
def State.reads16 (s : State) (a : Word) : List Access := s.reads8 a ++ s.reads8 (a + 1)

/-- Stores to the listed addresses, in this order; `t` is the state after them: a store to a mapped PPAGE acts on those
that follow it (log 52). -/
def State.writes (s t : State) : List Word → List Access
  | [] => []
  | a :: rest => ⟨.write, some a, s.logicalKey a⟩ :: (if s.device.ppageAddr = some a then t else s).writes t rest

/-- Reads from global space (20_memory.md R72). -/
def State.globalReads (s : State) (eas : List Word) : List Access := eas.map fun ea => ⟨.read, none, s.globalKey ea⟩

/-- Stores to global space (20_memory.md R72). -/
def State.globalWrites (s : State) (eas : List Word) : List Access := eas.map fun ea => ⟨.write, none, s.globalKey ea⟩

/-- The stores of `n` words pushed below `sp`, each byte by byte upwards (20_memory.md R62, R66). -/
def pushAddresses (sp : Word) : Nat → List Word
  | 0 => []
  | n + 1 => (sp - 2) :: (sp - 1) :: pushAddresses (sp - 2) n

/-- Taking an exception: the vector, then the frame (60_exceptions.md R811). -/
def State.enterAccesses (s : State) (offset : Byte) (rtn : Word) : List Access :=
  s.reads16 (s.vectorAddress offset) ++ s.writes (s.pushFrame rtn) (pushAddresses s.sp 5)

/-! ## Accesses of the operands -/

/-- The pointer of an indirect operand (31_indexed_postbyte.md R146, R151). -/
def Idx.pointerReads (i : Idx) (s : State) (pcRef : Word) : List Access :=
  if i.isDirect then [] else s.reads16 (i.pointer s pcRef)

/-- The pointer of an extended or indexed operand. -/
def Xea.pointerReads (e : Xea) (s : State) (pcRef : Word) : List Access :=
  match e with
  | .ext _ => []
  | .idx i => Idx.pointerReads i s pcRef

/-- The pointer of a memory operand. -/
def Ea.pointerReads (e : Ea) (s : State) : List Access :=
  match e with
  | .dir _ | .ext _ => []
  | .idx i => Idx.pointerReads i s s.pc

/-- A byte read at a memory operand. -/
def Ea.reads8 (e : Ea) (s : State) : List Access := Ea.pointerReads e s ++ s.reads8 (e.addr s)
/-- A word read at a memory operand. -/
def Ea.reads16 (e : Ea) (s : State) : List Access := Ea.pointerReads e s ++ s.reads16 (e.addr s)
/-- A byte read at an extended or indexed operand. -/
def Xea.reads8 (e : Xea) (s : State) (pcRef : Word) : List Access := Xea.pointerReads e s pcRef ++ s.reads8 (e.addr s pcRef)
/-- A word read at an extended or indexed operand. -/
def Xea.reads16 (e : Xea) (s : State) (pcRef : Word) : List Access :=
  Xea.pointerReads e s pcRef ++ s.reads16 (e.addr s pcRef)
/-- A byte read at an indexed operand. -/
def Idx.reads8 (i : Idx) (s : State) : List Access := Idx.pointerReads i s s.pc ++ s.reads8 (i.addr s s.pc)
/-- A word read at an indexed operand. -/
def Idx.reads16 (i : Idx) (s : State) : List Access := Idx.pointerReads i s s.pc ++ s.reads16 (i.addr s s.pc)

/-- An 8-bit source. -/
def Src8.reads (o : Src8) (s : State) : List Access :=
  match o with
  | .imm _ => []
  | .mem e => Ea.reads8 e s

/-- A 16-bit source. -/
def Src16.reads (o : Src16) (s : State) : List Access :=
  match o with
  | .imm _ => []
  | .mem e => Ea.reads16 e s

/-- The source of MOVB. -/
def MoveSrc8.reads (o : MoveSrc8) (dst : Xea) (s : State) : List Access :=
  match o with
  | .imm _ => []
  | .mem e => Xea.reads8 e s (dst.moveRef s)

/-- The source of MOVW. -/
def MoveSrc16.reads (o : MoveSrc16) (dst : Xea) (s : State) : List Access :=
  match o with
  | .imm _ => []
  | .mem e => Xea.reads16 e s (dst.moveRef s)

/-! ## Accesses of the instructions -/

/-- CALL: the pointer and its page byte, then the return address and PPAGE (47_branch_loop_jump.md R752). -/
def callAccesses (target : CallTarget) (s : State) : List Access :=
  let pushes (u : State) := u.writes ((u.pushWord u.pc).pushByte u.ppage) (pushAddresses u.sp 1 ++ [u.sp - 3])
  match target with
  | .ext _ _ => pushes s
  | .idx i _ => pushes (i.update s)
  | .ind i => s.reads16 (i.pointer s s.pc) ++ s.reads8 (i.pointer s s.pc + 2) ++ pushes s

/-- A fuzzy output: read, and written when A is above it (49_fuzzy.md R1003). -/
def outputAccesses (addr : Word) (s t : State) : List Access :=
  s.reads8 addr ++ if s.readByte addr < s.a then s.writes t [addr] else []

/-- One element of REV (49_fuzzy.md R1003). -/
def revAccesses (s t : State) : List Access :=
  let addr := s.y + zext8 (s.readByte s.x)
  s.reads8 s.x ++
    (if s.readByte s.x = 0xFF#8 ∨ s.readByte s.x = 0xFE#8 then []
     else if s.ccr.getLsbD 1 then outputAccesses addr s t
     else s.reads8 addr)

/-- One element of REVW (49_fuzzy.md R1004). -/
def revwAccesses (s t : State) : List Access :=
  let r := s.readWord s.x
  s.reads16 s.x ++
    (if r = 0xFFFF#16 then []
     else if r = 0xFFFE#16 then (if !s.ccr.getLsbD 1 && s.ccr.getLsbD 0 then s.reads8 s.y else [])
     else if s.ccr.getLsbD 1 then outputAccesses r s t
     else s.reads8 r)

/-- RTC: PPAGE is written before the address is pulled (47_branch_loop_jump.md R753; log 37). -/
def rtcAccesses (s : State) : List Access :=
  s.reads8 s.sp ++ (s.setPpage (s.readByte s.sp)).reads16 (s.sp + 1)

/-- RTI: CCRW, B:A, X, then PC before Y (48_stack_ccr_system.md R787, 90_conflicts.md C28). -/
def rtiAccesses (s : State) : List Access :=
  s.reads16 s.sp ++ s.reads16 (s.sp + 2) ++ s.reads16 (s.sp + 4) ++ s.reads16 (s.sp + 8) ++ s.reads16 (s.sp + 6)

/-- The data accesses of an instruction run from `s`; `t` is the state after its stores. -/
def Instr.accesses (i : Instr) (s t : State) : List Access :=
  match i with
  | .ldaa src | .ldab src | .adca src | .adcb src | .adda src | .addb src | .sbca src | .sbcb src | .suba src | .subb src
  | .cmpa src | .cmpb src | .anda src | .andb src | .bita src | .bitb src | .eora src | .eorb src | .oraa src
  | .orab src => Src8.reads src s
  | .ldd src | .lds src | .ldx src | .ldy src | .addd src | .addx src | .addy src | .aded src | .adex src | .adey src
  | .subd src | .subx src | .suby src | .sbed src | .sbex src | .sbey src | .cpd src | .cps src | .cpx src | .cpy src
  | .cped src | .cpes src | .cpex src | .cpey src | .andx src | .andy src | .bitx src | .bity src | .eorx src | .eory src
  | .orx src | .ory src => Src16.reads src s
  | .staa ea | .stab ea => Ea.pointerReads ea s ++ s.writes t [ea.addr s]
  | .std ea | .sts ea | .stx ea | .sty ea => Ea.pointerReads ea s ++ s.writes t [ea.addr s, ea.addr s + 1]
  | .gldaa ea | .gldab ea => Ea.pointerReads ea s ++ s.globalReads [ea.addr s]
  | .gldd ea | .glds ea | .gldx ea | .gldy ea => Ea.pointerReads ea s ++ s.globalReads [ea.addr s, ea.addr s + 1]
  | .gstaa ea | .gstab ea => Ea.pointerReads ea s ++ s.globalWrites [ea.addr s]
  | .gstd ea | .gsts ea | .gstx ea | .gsty ea => Ea.pointerReads ea s ++ s.globalWrites [ea.addr s, ea.addr s + 1]
  | .bclr ea _ | .bset ea _ | .btas ea _ => Ea.reads8 ea s ++ s.writes t [ea.addr s]
  | .brclr ea _ _ | .brset ea _ _ => Ea.reads8 ea s
  | .clr ea => Xea.pointerReads ea s s.pc ++ s.writes t [ea.addr s s.pc]
  | .clrw ea => Xea.pointerReads ea s s.pc ++ s.writes t [ea.addr s s.pc, ea.addr s s.pc + 1]
  | .tst ea => Xea.reads8 ea s s.pc
  | .tstw ea => Xea.reads16 ea s s.pc
  | .com ea | .neg ea | .dec ea | .inc ea | .asl ea | .lsl ea | .asr ea | .lsr ea | .rol ea | .ror ea =>
    Xea.reads8 ea s s.pc ++ s.writes t [ea.addr s s.pc]
  | .comw ea | .negw ea | .decw ea | .incw ea | .aslw ea | .lslw ea | .asrw ea | .lsrw ea | .rolw ea | .rorw ea =>
    Xea.reads16 ea s s.pc ++ s.writes t [ea.addr s s.pc, ea.addr s s.pc + 1]
  | .emacs addr =>
    s.reads16 s.x ++ s.reads16 s.y ++ s.reads16 addr ++ s.reads16 (addr + 2) ++
      s.writes t [addr, addr + 1, addr + 2, addr + 3]
  | .maxa idx | .mina idx => Idx.reads8 idx s
  | .maxm idx | .minm idx => Idx.reads8 idx s ++ s.writes t [idx.addr s s.pc]
  | .emaxd idx | .emind idx => Idx.reads16 idx s
  | .emaxm idx | .eminm idx => Idx.reads16 idx s ++ s.writes t [idx.addr s s.pc, idx.addr s s.pc + 1]
  | .tbl idx => s.reads8 (idx.addr s s.pc) ++ s.reads8 (idx.addr s s.pc + 1)
  | .etbl idx => s.reads16 (idx.addr s s.pc) ++ s.reads16 (idx.addr s s.pc + 2)
  | .movb src dst =>
    let u := src.update s
    MoveSrc8.reads src dst s ++ Xea.pointerReads dst u u.pc ++ u.writes t [dst.addr u u.pc]
  | .movw src dst =>
    let u := src.update s
    MoveSrc16.reads src dst s ++ Xea.pointerReads dst u u.pc ++ u.writes t [dst.addr u u.pc, dst.addr u u.pc + 1]
  | .jmp target => Xea.pointerReads target s s.pc
  | .jsr target => Ea.pointerReads target s ++ s.writes t (pushAddresses (target.update s).sp 1)
  | .bsr _ => s.writes t (pushAddresses s.sp 1)
  | .call target => callAccesses target s
  | .rtc => rtcAccesses s
  | .rts => s.reads16 s.sp
  | .psha | .pshb | .pshc => s.writes t [s.sp - 1]
  | .pshcw | .pshd | .pshx | .pshy => s.writes t (pushAddresses s.sp 1)
  | .pula | .pulb | .pulc => s.reads8 s.sp
  | .pulcw | .puld | .pulx | .puly => s.reads16 s.sp
  | .rti => rtiAccesses s
  | .swi => s.enterAccesses 0xF6 s.pc
  | .trap _ => s.enterAccesses 0xF8 s.pc
  | .wai => s.writes t (pushAddresses s.sp 5)
  | .stop => if s.ccr.getLsbD 7 then [] else s.writes t (pushAddresses s.sp 5)
  | .mem => s.reads16 s.x ++ s.reads16 (s.x + 2) ++ s.writes t [s.y]
  | .rev => revAccesses s t
  | .revw => revwAccesses s t
  | .wavr =>
    s.reads16 s.sp ++ s.reads16 (s.sp + 2) ++ s.reads16 (s.sp + 4) ++ s.reads8 (s.y - 1) ++ s.reads8 (s.x - 1)
  | .leas _ | .leax _ | .leay _ | .bcc _ | .bcs _ | .beq _ | .bge _ | .bgt _ | .bhi _ | .bhs _ | .ble _ | .blo _ | .bls _
  | .blt _ | .bmi _ | .bne _ | .bpl _ | .bra _ | .brn _ | .bvc _ | .bvs _ | .lbcc _ | .lbcs _ | .lbeq _ | .lbge _
  | .lbgt _ | .lbhi _ | .lbhs _ | .lble _ | .lblo _ | .lbls _ | .lblt _ | .lbmi _ | .lbne _ | .lbpl _ | .lbra _ | .lbrn _
  | .lbvc _ | .lbvs _ | .dbeq _ _ | .dbne _ _ | .ibeq _ _ | .ibne _ _ | .tbeq _ _ | .tbne _ _ | .andcc _ | .orcc _
  | .tfr _ _ _ | .sex _ | .exg _ _ _ | .abx | .aby | .des | .ins | .aba | .sba | .cba | .daa | .clra | .clrb | .clrx | .clry
  | .coma | .comb | .comx | .comy | .nega | .negb | .negx | .negy | .deca | .decb | .decx | .decy | .dex | .dey | .inca
  | .incb | .incx | .incy | .inx | .iny | .tsta | .tstb | .tstx | .tsty | .asla | .aslb | .asld | .aslx | .asly | .lsla
  | .lslb | .lsld | .lslx | .lsly | .asra | .asrb | .asrx | .asry | .lsra | .lsrb | .lsrd | .lsrx | .lsry | .rola | .rolb
  | .rolx | .roly | .rora | .rorb | .rorx | .rory | .mul | .emul | .emuls | .ediv | .edivs | .idiv | .idivs | .fdiv | .clc
  | .cli | .clv | .sec | .sei | .sev | .nop | .bgnd | .wav | .tab | .tba | .tap | .tpa | .tsx | .tsy | .txs | .tys | .xgdx
  | .xgdy => []

/-- The accesses of the instruction at PC: its bytes, then its data; of bytes that the fetch refuses, the first. -/
def State.instructionAccesses (s : State) : List Access :=
  match s.fetch with
  | .error _ => s.fetches s.pc 1
  | .ok (i, length) =>
    s.fetches s.pc length ++
      match exec i (s.begin length) with
      | .next t => Instr.accesses i (s.begin length) t
      | .fault _ | .refused _ => []

/-- The accesses of what is recognised: its vector, then the frame; of a WAV the three sums before the frame
(60_exceptions.md R811, 49_fuzzy.md R1008). -/
def State.suspendAccesses (s : State) (offset : Byte) : List Access :=
  let t := wavSuspend s
  s.writes t (pushAddresses s.sp 3) ++ t.enterAccesses offset s.pc

/-- The accesses of a REV, REVW or WAV element from `s`, by what it makes of it. -/
def elementAccesses (f : State → State → List Access) (s : State) : Host.Outcome State Fault Refusal → List Access
  | .next t => f s t
  | .fault _ | .refused _ => []

/-- The accesses of a step from a state whose sample `p` has been taken: the branches of `stepWith`. -/
def stepAccesses (p : Sample) (s : State) : List Access :=
  match p.reset with
  | some _ => []
  | none =>
    match s.run with
    | .inReset k => s.reads16 (resetVector k)
    | .waiting | .stopped =>
      match s.recognised p false with
      | some (offset, _) => s.reads16 (s.vectorAddress offset)
      | none => []
    | .background => []
    | .running =>
      match s.recognised p s.iDelay with
      | some (offset, _) => s.enterAccesses offset s.pc
      | none => if p.forceSwi then s.enterAccesses 0xF6 s.pc else s.instructionAccesses
    | .inRev =>
      match s.recognised p false with
      | some (offset, _) => s.enterAccesses offset s.pc
      | none => elementAccesses revAccesses s (continueRev s)
    | .inRevw =>
      match s.recognised p false with
      | some (offset, _) => s.enterAccesses offset s.pc
      | none => elementAccesses revwAccesses s (continueRevw s)
    | .inWav =>
      match s.recognised p false with
      | some (offset, _) => s.suspendAccesses offset
      | none => s.reads8 s.y ++ s.reads8 s.x

/-- The step asks for an access that the device answers with the illegal-address reset (60_exceptions.md R851). -/
def illegalAccess (p : Sample) (s : State) : Bool :=
  !s.device.illegal.isEmpty && (stepAccesses p s).any s.device.forbids

end Sys2Proof.Machine
end

