-- ==== Sys2Proof/Machine/Step.lean ====
section
/-! DEFINITION. One step: a reset, an interrupt, a moment of waiting, an element of an interruptible instruction, or one
instruction; and the placing of an instruction for the host's questions. -/

namespace Sys2Proof.Machine

/-- One step from a state whose sample `p` has been taken (60_exceptions.md R804, R810, R816; 49_fuzzy.md R1000;
70_reset_and_hazards.md R901). -/
def stepWith (p : Sample) (s : State) : Host.Outcome State Fault Refusal :=
  match p.reset with
  | some k => .next (s.holdInReset k)
  | none =>
    match s.run with
    | .inReset k => .next (s.resetBy k)
    | .waiting | .stopped => .next (s.waitMoment p)
    | .background => .next (s.backgroundMoment p)
    | .running =>
      match s.recognised p s.iDelay with
      | some (offset, m) => .next (s.enter offset s.pc m)
      | none => if p.forceSwi then .next (s.enter 0xF6 s.pc .trap) else runInstruction s
    | .inRev =>
      match s.recognised p false with
      | some (offset, m) => .next (s.enter offset s.pc m)
      | none => continueRev s
    | .inRevw =>
      match s.recognised p false with
      | some (offset, m) => .next (s.enter offset s.pc m)
      | none => continueRevw s
    | .inWav =>
      match s.recognised p false with
      | some (offset, m) => .next ((wavSuspend s).enter offset s.pc m)
      | none => .next (wavPass s)

/-- What a step answers when the device asks for the illegal-address reset on one of its accesses: the system reset begins
at the boundary after it, or in place of what cannot run (60_exceptions.md R851, 70_reset_and_hazards.md R901; logs 17,
48). -/
def illegalAddressReset (s : State) : Host.Outcome State Fault Refusal → Host.Outcome State Fault Refusal
  | .next t => .next (t.holdInReset .system)
  | .fault _ | .refused _ => .next (s.holdInReset .system)

/-- A step with the illegal-address reset of its accesses. -/
def guardedStep (p : Sample) (s : State) : Host.Outcome State Fault Refusal :=
  if illegalAccess p s then illegalAddressReset s (stepWith p s) else stepWith p s

/-- One step of the machine: the next sample of the environment (nothing pending when none is left), then what it asks
for. -/
def step (s : State) : Host.Outcome State Fault Refusal := guardedStep (s.inputs.headD Sample.quiet) s.nextSample

/-- The state with an instruction stored where the next step fetches it, the bits above its own zero: nothing pending,
running, RAM at PC (log 8). -/
def State.withFetchWord (s : State) (nbits w : Nat) : State :=
  { s.placeBytes s.pc (tableProgram nbits w) with
    device := { s.device with
      ppageAddr := none, gpageAddr := none, directAddr := none, vbAddr := none, regions := [], illegal := [] }
    run := .running
    iDelay := false
    stale := []
    inputs := [] }

end Sys2Proof.Machine
end

