-- ==== Sys2Proof/Safety.lean ====
section
/-! DEFINITION. The terms the statements are written in: which fields a step leaves alone, which bytes it leaves alone, what
it makes of each condition-code bit, what a store does, and the invariant of every run. -/

namespace Sys2Proof.Safety

open Sys2Proof Sys2Proof.Machine

/-- The fields of `State` other than memory, and other than the TMP registers, on whose content no statement may rely
(92 D6). -/
inductive Field where
  | a | b | x | y | sp | pc | ccr | ipl | ppage | gpage | direct | vb
  | run | iDelay | stale | inputs | device | free
  deriving DecidableEq, Repr

/-- Two states hold the same in a field. -/
def Field.Same (s t : State) : Field → Prop
  | .a => t.a = s.a
  | .b => t.b = s.b
  | .x => t.x = s.x
  | .y => t.y = s.y
  | .sp => t.sp = s.sp
  | .pc => t.pc = s.pc
  | .ccr => t.ccr = s.ccr
  | .ipl => t.ipl = s.ipl
  | .ppage => t.ppage = s.ppage
  | .gpage => t.gpage = s.gpage
  | .direct => t.direct = s.direct
  | .vb => t.vb = s.vb
  | .run => t.run = s.run
  | .iDelay => t.iDelay = s.iDelay
  | .stale => t.stale = s.stale
  | .inputs => t.inputs = s.inputs
  | .device => t.device = s.device
  | .free => t.free = s.free

/-- Every field but the listed ones is the same in `t` as in `s`: the registers a frame names are the list. -/
def SameExcept (fields : List Field) (s t : State) : Prop := ∀ f : Field, f ∉ fields → f.Same s t

/-- Every byte of memory (logical, paged and global, by physical address) but the listed ones reads in `t` as in `s`. -/
def SameMemory (keys : List Nat) (s t : State) : Prop :=
  ∀ k : Nat, k ∉ keys → Memory.read t.mem k = Memory.read s.mem k

/-- What becomes of H, N, Z, V, C: `none` is "unchanged", `some v` is the value; S, X and I are unchanged. -/
structure FlagChange where
  h : Option Bool
  n : Option Bool
  z : Option Bool
  v : Option Bool
  c : Option Bool

/-- The condition codes after are those before with the change made (10_state.md R26, R35). -/
def FlagChange.Made (fc : FlagChange) (old new : Byte) : Prop :=
  new.getLsbD 7 = old.getLsbD 7 ∧ new.getLsbD 6 = old.getLsbD 6 ∧ new.getLsbD 4 = old.getLsbD 4 ∧
  new.getLsbD 5 = fc.h.getD (old.getLsbD 5) ∧ new.getLsbD 3 = fc.n.getD (old.getLsbD 3) ∧
  new.getLsbD 2 = fc.z.getD (old.getLsbD 2) ∧ new.getLsbD 1 = fc.v.getD (old.getLsbD 1) ∧
  new.getLsbD 0 = fc.c.getD (old.getLsbD 0)

/-- No condition code changes. -/
def FlagChange.keep : FlagChange := ⟨none, none, none, none, none⟩

/-- N says that the result is negative, Z that it is zero (10_state.md R34); V and C as given, H stays. -/
def FlagChange.nz {w : Nat} (r : BitVec w) (v c : Option Bool) : FlagChange :=
  ⟨none, some (decide (r.toInt < 0)), some (decide (r.toNat = 0)), v, c⟩

/-- The condition codes agree outside the free bits of the mask (92 D12). -/
def SameCcrOutside (mask old new : Byte) : Prop := new &&& ~~~mask = old &&& ~~~mask

/-- An instruction that writes no memory: the listed fields may change, the flags change as said, nothing else does. -/
def Effect (fields : List Field) (fc : FlagChange) (s t : State) : Prop :=
  SameExcept (.ccr :: fields) s t ∧ SameMemory [] s t ∧ fc.Made s.ccr t.ccr

/-- The field of a register that memory shows. -/
def pageField : PageReg → Field
  | .ppage => .ppage
  | .gpage => .gpage
  | .direct => .direct
  | .vb => .vb

/-- What a register of another module reads as after `v` is stored to it: GPAGE has seven bits (10_state.md R38). -/
def pageValue (r : PageReg) (v : Byte) : Byte :=
  match r with
  | .gpage => v &&& 0x7F#8
  | .ppage | .direct | .vb => v

/-- No register of another module is mapped at the address (92 D10). -/
def Unmapped (s : State) (a : Word) : Prop := s.device.registerAt a = none

/-- The address is RAM: a byte stored there can be read back (92 D10). -/
def IsRam (s : State) (a : Word) : Prop := Unmapped s a ∧ regionKind s.device.regions (s.logicalKey a) = .ram

/-- What memory holds at a physical address after a store of `v`: RAM holds `v`, a device register what its behaviour
makes of it (92 D10; log 47); that ROM and an unimplemented address ignore the store is the model's choice (log 13). -/
def keptByte (s : State) (k : Nat) (v : Byte) : Byte :=
  match regionKind s.device.regions k with
  | .ram => v
  | .register b => b.written (Memory.read s.mem k) v
  | .rom | .unimplemented => Memory.read s.mem k

/-- `MemWrite(a, 1, v)` from `s` to `t` (20_memory.md R62): no byte of memory changes but the one at `a`, which becomes
`keptByte`; a mapped register holds `v` and no byte of memory changes.  `also` lists the fields the instruction changes
besides. -/
def StoresByte (also : List Field) (s t : State) (a : Word) (v : Byte) : Prop :=
  SameMemory [s.logicalKey a] s t ∧
  (Unmapped s a →
    SameExcept (.stale :: also) s t ∧ Memory.read t.mem (s.logicalKey a) = keptByte s (s.logicalKey a) v) ∧
  (∀ r, s.device.registerAt a = some r →
    SameMemory [] s t ∧ t.pageReg r = pageValue r v ∧ SameExcept (.stale :: pageField r :: also) s t)

/-- `MemWrite(a, 2, v)`: the high byte at `a`, then the low byte at `a + 1` (20_memory.md R62, R63). -/
def StoresWord (also : List Field) (s t : State) (a : Word) (v : Word) : Prop :=
  ∃ m : State, StoresByte [] s m a (v.extractLsb' 8 8) ∧ StoresByte also m t (a + 1) (v.extractLsb' 0 8)

/-- `GMemWrite(EA, 1, v)` (20_memory.md R72). -/
def GlobalStoresByte (also : List Field) (s t : State) (ea : Word) (v : Byte) : Prop :=
  SameMemory [s.globalKey ea] s t ∧ SameExcept also s t ∧
  Memory.read t.mem (s.globalKey ea) = keptByte s (s.globalKey ea) v

/-- Two stack bytes pushed by `n` bytes below SP lie in RAM: the whole area from `sp - n` up to `sp - 1`. -/
def StackIsRam (s : State) (n : Nat) : Prop := ∀ k < n, IsRam s (s.sp - BitVec.ofNat 16 (k + 1))

/-- The invariant every step keeps: memory is in its canonical form. -/
def MemoryForm (s : State) : Prop := Memory.wf s.mem = true

/-- Every field but the listed ones and every byte of memory is the same. -/
def Keeps (fields : List Field) (s t : State) : Prop := SameExcept fields s t ∧ SameMemory [] s t

/-- What the words exchanged by EXG are (41_transfer_exchange.md R307, R308): an 8-bit register zero-extended, `tmp` for a
TMP register, of which nothing is said, and `ccr` for the condition codes. -/
def exchangeWord (s : State) (tmp ccr : Word) : RegCode → Word
  | .a => 0x00#8 ++ s.a
  | .b => 0x00#8 ++ s.b
  | .ccr => ccr
  | .tmp => tmp
  | .d => s.a ++ s.b
  | .x => s.x
  | .y => s.y
  | .sp => s.sp

/-- The register that a code names takes the word `w`, an 8-bit register its low byte, the condition codes under the X rule
(10_state.md R33, 41_transfer_exchange.md R302; the I delay by 92 D26); with `high` CCR is CCRW.  `tmp` is the TMP register
of that side. -/
def TakesWord (high : Bool) (tmp : State → Word) (s t : State) (w : Word) : RegCode → Prop
  | .a => t.a = w.extractLsb' 0 8
  | .b => t.b = w.extractLsb' 0 8
  | .ccr =>
    (∀ k < 8, t.ccr.getLsbD k = (w.getLsbD k && (decide (k ≠ 6) || s.ccr.getLsbD 6))) ∧
    t.iDelay = (s.ccr.getLsbD 4 && !w.getLsbD 4) ∧ t.ipl = if high then w.extractLsb' 8 3 else s.ipl
  | .tmp => tmp t = w
  | .d => t.a ++ t.b = w
  | .x => t.x = w
  | .y => t.y = w
  | .sp => t.sp = w

/-- The fields of the register that a code names. -/
def codeFields : RegCode → List Field
  | .a => [.a]
  | .b => [.b]
  | .ccr => [.ccr, .ipl, .iDelay]
  | .tmp => []
  | .d => [.a, .b]
  | .x => [.x]
  | .y => [.y]
  | .sp => [.sp]

/-- A exchanges with the high byte of the register, the low byte stays (41_transfer_exchange.md R308: CCRH, TMPxH, XH, YH,
SPH); of the byte that a TMP register gives nothing is said. -/
def SwapsHigh (tmp : State → Word) (s t : State) : RegCode → Prop
  | .ccr => t.a = 0#5 ++ s.ipl ∧ t.ipl = s.a.extractLsb' 0 3 ∧ Keeps [.a, .ipl] s t
  | .tmp => tmp t = s.a ++ (tmp s).extractLsb' 0 8 ∧ Keeps [.a, .free] s t
  | .x => t.a = s.x.extractLsb' 8 8 ∧ t.x = s.a ++ s.x.extractLsb' 0 8 ∧ Keeps [.a, .x] s t
  | .y => t.a = s.y.extractLsb' 8 8 ∧ t.y = s.a ++ s.y.extractLsb' 0 8 ∧ Keeps [.a, .y] s t
  | .sp => t.a = s.sp.extractLsb' 8 8 ∧ t.sp = s.a ++ s.sp.extractLsb' 0 8 ∧ Keeps [.a, .sp] s t
  | .a | .b | .d => False

/-- B exchanges with the low byte of the register, the high byte stays (41_transfer_exchange.md R308: CCRL, TMPxL, XL, YL,
SPL); of the byte that a TMP register gives nothing is said. -/
def SwapsLow (tmp : State → Word) (s t : State) : RegCode → Prop
  | .ccr => t.b = s.ccr ∧
    (∀ k < 8, t.ccr.getLsbD k = (s.b.getLsbD k && (decide (k ≠ 6) || s.ccr.getLsbD 6))) ∧
    t.iDelay = (s.ccr.getLsbD 4 && !s.b.getLsbD 4) ∧ Keeps [.b, .ccr, .iDelay] s t
  | .tmp => tmp t = (tmp s).extractLsb' 8 8 ++ s.b ∧ Keeps [.b, .free] s t
  | .x => t.b = s.x.extractLsb' 0 8 ∧ t.x = s.x.extractLsb' 8 8 ++ s.b ∧ Keeps [.b, .x] s t
  | .y => t.b = s.y.extractLsb' 0 8 ∧ t.y = s.y.extractLsb' 8 8 ++ s.b ∧ Keeps [.b, .y] s t
  | .sp => t.b = s.sp.extractLsb' 0 8 ∧ t.sp = s.sp.extractLsb' 8 8 ++ s.b ∧ Keeps [.b, .sp] s t
  | .a | .b | .d => False

/-- `exec` answers a next state of which `P` holds. -/
def Completes (i : Instr) (s : State) (P : State → Prop) : Prop := ∃ t, exec i s = .next t ∧ P t

/-! ## Loads, stores and operations on a register and a source -/

/-- An 8-bit load (40_load_store_move.md R200). -/
def Loads8 (i : Src8 → Instr) (reg : State → Byte) (fields : List Field) : Prop :=
  ∀ (src : Src8) (s : State), Completes (i src) s fun t =>
    reg t = src.value s ∧ Effect fields (.nz (src.value s) (some false) none) (src.update s) t

/-- A 16-bit load (40_load_store_move.md R200): from memory the high byte at EA, the low byte at EA+1. -/
def Loads16 (i : Src16 → Instr) (reg : State → Word) (fields : List Field) : Prop :=
  (∀ (src : Src16) (s : State), Completes (i src) s fun t =>
    reg t = src.value s ∧ Effect fields (.nz (src.value s) (some false) none) (src.update s) t) ∧
  ∀ (ea : Ea) (s : State), (Src16.mem ea).value s = s.readByte (ea.addr s) ++ s.readByte (ea.addr s + 1)

/-- An 8-bit store (40_load_store_move.md R207): the register as the formed address left it goes to EA. -/
def Stores8 (i : Ea → Instr) (reg : State → Byte) : Prop :=
  ∀ (ea : Ea) (s : State), MemoryForm s → Completes (i ea) s fun t =>
    StoresByte [.ccr] (ea.update s) t (ea.addr s) (reg (ea.update s)) ∧
    (FlagChange.nz (reg (ea.update s)) (some false) none).Made s.ccr t.ccr

/-- A 16-bit store (40_load_store_move.md R207). -/
def Stores16 (i : Ea → Instr) (reg : State → Word) : Prop :=
  ∀ (ea : Ea) (s : State), MemoryForm s → Completes (i ea) s fun t =>
    StoresWord [.ccr] (ea.update s) t (ea.addr s) (reg (ea.update s)) ∧
    (FlagChange.nz (reg (ea.update s)) (some false) none).Made s.ccr t.ccr

/-- An 8-bit load from GPAGE:EA (40_load_store_move.md R221). -/
def GlobalLoads8 (i : Ea → Instr) (reg : State → Byte) (fields : List Field) : Prop :=
  ∀ (ea : Ea) (s : State), Completes (i ea) s fun t =>
    reg t = s.globalReadByte (ea.addr s) ∧
    Effect fields (.nz (s.globalReadByte (ea.addr s)) (some false) none) (ea.update s) t

/-- A 16-bit load from GPAGE:EA and GPAGE:EA+1, no carry into GPAGE (40 R221, 20_memory.md R72). -/
def GlobalLoads16 (i : Ea → Instr) (reg : State → Word) (fields : List Field) : Prop :=
  ∀ (ea : Ea) (s : State), Completes (i ea) s fun t =>
    reg t = s.globalReadByte (ea.addr s) ++ s.globalReadByte (ea.addr s + 1) ∧
    Effect fields (.nz (reg t) (some false) none) (ea.update s) t

/-- An 8-bit store to GPAGE:EA (40_load_store_move.md R221). -/
def GlobalStores8 (i : Ea → Instr) (reg : State → Byte) : Prop :=
  ∀ (ea : Ea) (s : State), MemoryForm s → Completes (i ea) s fun t =>
    GlobalStoresByte [.ccr] (ea.update s) t (ea.addr s) (reg (ea.update s)) ∧
    (FlagChange.nz (reg (ea.update s)) (some false) none).Made s.ccr t.ccr

/-- A 16-bit store to GPAGE:EA and GPAGE:EA+1, no carry into GPAGE (40 R221, 20_memory.md R72). -/
def GlobalStores16 (i : Ea → Instr) (reg : State → Word) : Prop :=
  ∀ (ea : Ea) (s : State), MemoryForm s → Completes (i ea) s fun t =>
    (∃ m : State,
      GlobalStoresByte [] (ea.update s) m (ea.addr s) ((reg (ea.update s)).extractLsb' 8 8) ∧
      GlobalStoresByte [.ccr] m t (ea.addr s + 1) ((reg (ea.update s)).extractLsb' 0 8)) ∧
    (FlagChange.nz (reg (ea.update s)) (some false) none).Made s.ccr t.ccr

/-- The C bit before an instruction, as a number. -/
def oldCarry (withCarry : Bool) (s : State) : Nat := if withCarry && s.ccr.getLsbD 0 then 1 else 0

/-- The flags of an addition of numbers `x`, `m` (signed `xi`, `mi`) and a carry on width `w` (42_add_sub_compare.md R350,
R351): C says that the sum exceeds the width, V that the signed sum does. -/
def sumFlags {w : Nat} (x m r : BitVec w) (c : Nat) : FlagChange :=
  .nz r
    (some (decide (x.toInt + m.toInt + c < -(2 ^ (w - 1) : Nat) ∨ (2 ^ (w - 1) : Nat) ≤ x.toInt + m.toInt + c)))
    (some (decide (2 ^ w ≤ x.toNat + m.toNat + c)))

/-- The flags of a subtraction (42_add_sub_compare.md R352): C says that the difference is negative, V that the signed one is
out of range. -/
def differenceFlags {w : Nat} (x m r : BitVec w) (c : Nat) : FlagChange :=
  .nz r
    (some (decide (x.toInt - m.toInt - c < -(2 ^ (w - 1) : Nat) ∨ (2 ^ (w - 1) : Nat) ≤ x.toInt - m.toInt - c)))
    (some (decide (x.toNat < m.toNat + c)))

/-- `Add8(reg, M, C or 0)` (42_add_sub_compare.md R350). -/
def AddsByte (i : Src8 → Instr) (reg : State → Byte) (fields : List Field) (withCarry : Bool) : Prop :=
  ∀ (src : Src8) (s : State), Completes (i src) s fun t =>
    let x := reg s
    let m := src.value s
    let c := oldCarry withCarry s
    (reg t).toNat = (x.toNat + m.toNat + c) % 256 ∧
    Effect fields { sumFlags x m (reg t) c with h := some (decide (15 < x.toNat % 16 + m.toNat % 16 + c)) }
      (src.update s) t

/-- `Add16(reg, M:M+1, C or 0)` (42_add_sub_compare.md R351); `sticky` is the Z rule of R353. -/
def AddsWord (i : Src16 → Instr) (reg : State → Word) (fields : List Field) (withCarry : Bool) : Prop :=
  ∀ (src : Src16) (s : State), Completes (i src) s fun t =>
    let x := reg (src.update s)
    let m := src.value s
    let c := oldCarry withCarry s
    (reg t).toNat = (x.toNat + m.toNat + c) % 65536 ∧
    Effect fields { sumFlags x m (reg t) c with
      z := some (decide ((reg t).toNat = 0) && (!withCarry || s.ccr.getLsbD 2)) } (src.update s) t

/-- `Sub8(reg, M, C or 0)` (42_add_sub_compare.md R352). -/
def SubtractsByte (i : Src8 → Instr) (reg : State → Byte) (fields : List Field) (withCarry : Bool) : Prop :=
  ∀ (src : Src8) (s : State), Completes (i src) s fun t =>
    let x := reg s
    let m := src.value s
    let c := oldCarry withCarry s
    ((reg t).toNat : Int) = ((x.toNat : Int) - m.toNat - c) % 256 ∧
    Effect fields (differenceFlags x m (reg t) c) (src.update s) t

/-- `Sub16(reg, M:M+1, C or 0)` (42_add_sub_compare.md R352), Z by R353 with a borrow. -/
def SubtractsWord (i : Src16 → Instr) (reg : State → Word) (fields : List Field) (withCarry : Bool) : Prop :=
  ∀ (src : Src16) (s : State), Completes (i src) s fun t =>
    let x := reg (src.update s)
    let m := src.value s
    let c := oldCarry withCarry s
    ((reg t).toNat : Int) = ((x.toNat : Int) - m.toNat - c) % 65536 ∧
    Effect fields { differenceFlags x m (reg t) c with
      z := some (decide ((reg t).toNat = 0) && (!withCarry || s.ccr.getLsbD 2)) } (src.update s) t

/-- A compare (42_add_sub_compare.md R376): the flags of the subtraction, nothing else; `r` is the discarded result. -/
def ComparesByte (i : Src8 → Instr) (reg : State → Byte) : Prop :=
  ∀ (src : Src8) (s : State), Completes (i src) s fun t => ∃ r : Byte,
    (r.toNat : Int) = ((reg s).toNat - (src.value s).toNat : Int) % 256 ∧
    Effect [] (differenceFlags (reg s) (src.value s) r 0) (src.update s) t

/-- A 16-bit compare (42_add_sub_compare.md R376), with a borrow and the Z rule of R353 when `withCarry`. -/
def ComparesWord (i : Src16 → Instr) (reg : State → Word) (withCarry : Bool) : Prop :=
  ∀ (src : Src16) (s : State), Completes (i src) s fun t => ∃ r : Word,
    let x := reg (src.update s)
    let m := src.value s
    let c := oldCarry withCarry s
    (r.toNat : Int) = ((x.toNat : Int) - m.toNat - c) % 65536 ∧
    Effect [] { differenceFlags x m r c with
      z := some (decide (r.toNat = 0) && (!withCarry || s.ccr.getLsbD 2)) } (src.update s) t

/-- A bitwise operation on an 8-bit register (43_logic_bit.md R450): bit `k` of the result is `f` of the two bits `k`. -/
def CombinesByte (i : Src8 → Instr) (reg : State → Byte) (fields : List Field) (f : Bool → Bool → Bool) : Prop :=
  ∀ (src : Src8) (s : State), Completes (i src) s fun t =>
    (∀ k < 8, (reg t).getLsbD k = f ((reg s).getLsbD k) ((src.value s).getLsbD k)) ∧
    Effect fields (.nz (reg t) (some false) none) (src.update s) t

/-- A bitwise operation on a 16-bit register (43_logic_bit.md R450). -/
def CombinesWord (i : Src16 → Instr) (reg : State → Word) (fields : List Field) (f : Bool → Bool → Bool) : Prop :=
  ∀ (src : Src16) (s : State), Completes (i src) s fun t =>
    (∀ k < 16, (reg t).getLsbD k = f ((reg (src.update s)).getLsbD k) ((src.value s).getLsbD k)) ∧
    Effect fields (.nz (reg t) (some false) none) (src.update s) t

/-- A bit test on an 8-bit register (43_logic_bit.md R455): the flags of the AND, nothing else. -/
def TestsByte (i : Src8 → Instr) (reg : State → Byte) : Prop :=
  ∀ (src : Src8) (s : State), Completes (i src) s fun t => ∃ r : Byte,
    (∀ k < 8, r.getLsbD k = ((reg s).getLsbD k && (src.value s).getLsbD k)) ∧
    Effect [] (.nz r (some false) none) (src.update s) t

/-- A bit test on a 16-bit register (43_logic_bit.md R457). -/
def TestsWord (i : Src16 → Instr) (reg : State → Word) : Prop :=
  ∀ (src : Src16) (s : State), Completes (i src) s fun t => ∃ r : Word,
    (∀ k < 16, r.getLsbD k = ((reg (src.update s)).getLsbD k && (src.value s).getLsbD k)) ∧
    Effect [] (.nz r (some false) none) (src.update s) t

/-- A bit manipulation (43_logic_bit.md R467 to R470): the byte at EA becomes `f` of it and the mask, the flags are those of
`test`; an indirect operand is no form of the instruction and is refused (31 R160). -/
def ManipulatesBits (i : Ea → Byte → Instr) (f test : Byte → Byte → Byte) : Prop :=
  ∀ (ea : Ea) (mask : Byte) (s : State), MemoryForm s →
    (ea.isDirect = true → Completes (i ea mask) s fun t =>
      StoresByte [.ccr] (ea.update s) t (ea.addr s) (f (s.readByte (ea.addr s)) mask) ∧
      (FlagChange.nz (test (s.readByte (ea.addr s)) mask) (some false) none).Made s.ccr t.ccr) ∧
    (ea.isDirect = false → exec (i ea mask) s = .refused .reservedForm)

/-! ## Operations on one operand (44_inc_dec_clr_com_neg_tst.md, 45_shift_rotate.md): result and flags, in numbers -/

/-- What an operation makes of an operand and the old C: the result and the flags. -/
structure Operation (w : Nat) where
  result : BitVec w → Bool → BitVec w
  flags : BitVec w → Bool → FlagChange

/-- R521. -/
def clearing (w : Nat) : Operation w where
  result _ _ := BitVec.ofNat w 0
  flags _ _ := ⟨none, some false, some true, some false, some false⟩

/-- R527: 2^w - 1 minus the operand. -/
def complementing (w : Nat) : Operation w where
  result v _ := BitVec.ofNat w (2 ^ w - 1 - v.toNat)
  flags v _ := .nz (BitVec.ofNat w (2 ^ w - 1 - v.toNat)) (some false) (some true)

/-- R534: zero minus the operand. -/
def negating (w : Nat) : Operation w where
  result v _ := BitVec.ofNat w (2 ^ w - v.toNat)
  flags v _ := .nz (BitVec.ofNat w (2 ^ w - v.toNat)) (some (decide (v.toNat = 2 ^ (w - 1)))) (some (decide (v.toNat ≠ 0)))

/-- R541: the operand minus one; C stays. -/
def decrementing (w : Nat) : Operation w where
  result v _ := BitVec.ofNat w (v.toNat + (2 ^ w - 1))
  flags v _ := .nz (BitVec.ofNat w (v.toNat + (2 ^ w - 1))) (some (decide (v.toNat = 2 ^ (w - 1)))) none

/-- R551: the operand plus one; C stays. -/
def incrementing (w : Nat) : Operation w where
  result v _ := BitVec.ofNat w (v.toNat + 1)
  flags v _ := .nz (BitVec.ofNat w (v.toNat + 1)) (some (decide (v.toNat = 2 ^ (w - 1) - 1))) none

/-- The flags of a shift (45_shift_rotate.md R600): V is N exclusive or C. -/
def shiftedFlags {w : Nat} (r : BitVec w) (c : Bool) : FlagChange := .nz r (some (decide (r.toInt < 0) != c)) (some c)

/-- Left shift taking `into` into bit 0 (R601). -/
def shiftingLeft (w : Nat) (into : Bool → Bool) : Operation w where
  result v c := BitVec.ofNat w (2 * v.toNat + (into c).toNat)
  flags v c := shiftedFlags (BitVec.ofNat w (2 * v.toNat + (into c).toNat)) (decide (2 ^ (w - 1) ≤ v.toNat))

/-- Right shift taking `into` into the MSB (R601). -/
def shiftingRight (w : Nat) (into : BitVec w → Bool → Bool) : Operation w where
  result v c := BitVec.ofNat w (v.toNat / 2 + (into v c).toNat * 2 ^ (w - 1))
  flags v c := shiftedFlags (BitVec.ofNat w (v.toNat / 2 + (into v c).toNat * 2 ^ (w - 1))) (decide (v.toNat % 2 = 1))

/-- ASL, LSL. -/
def arithmeticLeft (w : Nat) : Operation w := shiftingLeft w fun _ => false
/-- ASR: the sign is held. -/
def signedRight (w : Nat) : Operation w := shiftingRight w fun v _ => decide (2 ^ (w - 1) ≤ v.toNat)
/-- LSR. -/
def unsignedRight (w : Nat) : Operation w := shiftingRight w fun _ _ => false
/-- ROL. -/
def carryLeft (w : Nat) : Operation w := shiftingLeft w fun c => c
/-- ROR. -/
def carryRight (w : Nat) : Operation w := shiftingRight w fun _ c => c

/-- The operation on a register. -/
def OnRegister {w : Nat} (i : Instr) (reg : State → BitVec w) (fields : List Field) (op : Operation w) : Prop :=
  ∀ s : State, Completes i s fun t =>
    reg t = op.result (reg s) (s.ccr.getLsbD 0) ∧ Effect fields (op.flags (reg s) (s.ccr.getLsbD 0)) s t

/-- The operation on the byte at EA: one read, one write to the same address (44 R520). -/
def OnByte (i : Xea → Instr) (op : Operation 8) : Prop :=
  ∀ (ea : Xea) (s : State), MemoryForm s → Completes (i ea) s fun t =>
    let a := ea.addr s s.pc
    StoresByte [.ccr] (ea.update s) t a (op.result (s.readByte a) (s.ccr.getLsbD 0)) ∧
    (op.flags (s.readByte a) (s.ccr.getLsbD 0)).Made s.ccr t.ccr

/-- The operation on the word at EA (44 R520). -/
def OnWord (i : Xea → Instr) (op : Operation 16) : Prop :=
  ∀ (ea : Xea) (s : State), MemoryForm s → Completes (i ea) s fun t =>
    let a := ea.addr s s.pc
    StoresWord [.ccr] (ea.update s) t a (op.result (s.readWord a) (s.ccr.getLsbD 0)) ∧
    (op.flags (s.readWord a) (s.ccr.getLsbD 0)).Made s.ccr t.ccr

/-- The operation on A, B, X, Y, a byte and a word of memory. -/
def OnAll (ia ib ix iy : Instr) (im iw : Xea → Instr) (op : (w : Nat) → Operation w) : Prop :=
  OnRegister ia State.a [.a] (op 8) ∧ OnRegister ib State.b [.b] (op 8) ∧ OnRegister ix State.x [.x] (op 16) ∧
  OnRegister iy State.y [.y] (op 16) ∧ OnByte im (op 8) ∧ OnWord iw (op 16)

/-! ## Branches, stack, condition codes, exceptions -/

/-- A branch taken exactly when `taken` of N, Z, V, C holds (47_branch_loop_jump.md R700 to R702): short and long form. -/
def Branches (short : Byte → Instr) (long : Word → Instr) (taken : Bool → Bool → Bool → Bool → Bool) : Prop :=
  ∀ s : State,
    let go := taken (s.ccr.getLsbD 3) (s.ccr.getLsbD 2) (s.ccr.getLsbD 1) (s.ccr.getLsbD 0)
    (∀ rel : Byte, Completes (short rel) s fun t =>
      t.pc = (if go then s.pc + rel.signExtend 16 else s.pc) ∧ Keeps [.pc, .stale] s t) ∧
    (∀ rel : Word, Completes (long rel) s fun t =>
      t.pc = (if go then s.pc + rel else s.pc) ∧ Keeps [.pc, .stale] s t)

/-- The value of a loop counter (47_branch_loop_jump.md R741). -/
def counterValue (s : State) : Ctr → Nat
  | .a => s.a.toNat
  | .b => s.b.toNat
  | .d => s.d.toNat
  | .x => s.x.toNat
  | .y => s.y.toNat
  | .sp => s.sp.toNat

/-- The number of values of a loop counter: 2^8 or 2^16. -/
def counterSize : Ctr → Nat
  | .a | .b => 256
  | .d | .x | .y | .sp => 65536

/-- The fields of a loop counter. -/
def counterFields : Ctr → List Field
  | .a => [.a]
  | .b => [.b]
  | .d => [.a, .b]
  | .x => [.x]
  | .y => [.y]
  | .sp => [.sp]

/-- A loop primitive: the counter plus `delta` modulo its size, and a branch when the new value is zero, or is not
(47_branch_loop_jump.md R741). -/
def Loops (i : Ctr → BitVec 9 → Instr) (delta : Int) (whenZero : Bool) : Prop :=
  ∀ (c : Ctr) (rel : BitVec 9) (s : State), Completes (i c rel) s fun t =>
    ((counterValue t c : Int) = ((counterValue s c : Int) + delta) % counterSize c) ∧
    t.pc = (if decide (counterValue t c = 0) = whenZero then s.pc + rel.signExtend 16 else s.pc) ∧
    Keeps (.pc :: .stale :: counterFields c) s t

/-- `Push8(v)` (20_memory.md R62). -/
def PushesByte (i : Instr) (v : State → Byte) : Prop :=
  ∀ s : State, MemoryForm s → Completes i s fun t =>
    t.sp = s.sp - 1 ∧ StoresByte [] (s.setSp (s.sp - 1)) t (s.sp - 1) (v s)

/-- `Push16(v)` (20_memory.md R62). -/
def PushesWord (i : Instr) (v : State → Word) : Prop :=
  ∀ s : State, MemoryForm s → Completes i s fun t =>
    t.sp = s.sp - 2 ∧ StoresWord [] (s.setSp (s.sp - 2)) t (s.sp - 2) (v s)

/-- The X write rule (10_state.md R33): every bit from the value, but X only if it was set. -/
def CcrWritten (old value new : Byte) : Prop :=
  ∀ k < 8, new.getLsbD k = (value.getLsbD k && (decide (k ≠ 6) || old.getLsbD 6))

/-- An instruction that writes the condition codes from a value: the X rule, and the delay of maskable requests when I goes
from 1 to 0 (10_state.md R33, 60_exceptions.md R822); the listed fields besides, no memory. -/
def WritesCcr (fields : List Field) (value : Byte) (s t : State) : Prop :=
  CcrWritten s.ccr value t.ccr ∧ t.iDelay = (s.ccr.getLsbD 4 && !value.getLsbD 4) ∧
  Keeps (.ccr :: .iDelay :: fields) s t

/-- The byte of the exception frame at `S0 - 1 - k`, from RTNL down to CCRH (60_exceptions.md R811). -/
def frameByte (s : State) (rtn : Word) (k : Nat) : Byte :=
  [rtn.extractLsb' 0 8, rtn.extractLsb' 8 8, s.y.extractLsb' 0 8, s.y.extractLsb' 8 8, s.x.extractLsb' 0 8,
   s.x.extractLsb' 8 8, s.a, s.b, s.ccr, s.ipl.zeroExtend 8].getD k 0

/-- The ten-byte frame stands below the old SP, every other byte of memory is as before (60_exceptions.md R811). -/
def FramePushed (s t : State) (rtn : Word) : Prop :=
  t.sp = s.sp - 10 ∧
  (∀ k < 10, Memory.read t.mem (s.logicalKey (s.sp - 1 - BitVec.ofNat 16 k)) = frameByte s rtn k) ∧
  SameMemory ((List.range 10).map fun k => s.logicalKey (s.sp - 1 - BitVec.ofNat 16 k)) s t

/-- The masks after an entry (60_exceptions.md R812): I set, X set for XIRQ alone, the other bits as before. -/
def MasksSet (setsX : Bool) (old new : Byte) : Prop :=
  ∀ k < 8, new.getLsbD k = (old.getLsbD k || decide (k = 4) || (setsX && decide (k = 6)))

/-- Taking an exception through the vector at VB:offset with a stack in RAM (60_exceptions.md R811, R812, R830). -/
def Entered (s t : State) (offset : Byte) (rtn : Word) (setsX : Bool) (level : BitVec 3) : Prop :=
  FramePushed s t rtn ∧ t.pc = s.readWord (s.vb ++ offset) ∧ MasksSet setsX s.ccr t.ccr ∧ t.ipl = level ∧
  t.run = .running ∧ SameExcept [.sp, .pc, .ccr, .ipl, .run, .iDelay, .stale] s t

/-- The sample of the environment that the next step takes (60_exceptions.md R810). -/
def nextInput (s : State) : Sample := s.inputs.headD Sample.quiet

/-- The sample holds no interrupt that the masks let through (60_exceptions.md R810; level and IPL by 92 D19). -/
def NothingQualified (s : State) (delayed : Bool) : Prop :=
  ((nextInput s).xirq = true → s.ccr.getLsbD 6 = true) ∧
  ∀ r, (nextInput s).irq = some r →
    delayed = true ∨ r.deliverable = false ∨ s.ccr.getLsbD 4 = true ∨ r.level ≤ s.ipl

/-- The sample asks for no reset, no forced SWI, and no interrupt that the masks let through (60_exceptions.md R810). -/
def NothingRecognised (s : State) (delayed : Bool) : Prop :=
  (nextInput s).reset = none ∧ (nextInput s).forceSwi = false ∧ NothingQualified s delayed

/-- The interrupt that the sample holds and the masks let through: XIRQ when X = 0, else a maskable request with I = 0, a
level above IPL and no I delay (60_exceptions.md R804, R810, R822); `level` is what IPL becomes (92 D19). -/
def Qualified (s : State) (delayed : Bool) (offset : Byte) (setsX : Bool) (level : BitVec 3) : Prop :=
  ((nextInput s).xirq = true ∧ s.ccr.getLsbD 6 = false ∧
    offset = 0xF4 ∧ setsX = true ∧ level = s.device.xirqIpl.getD s.ipl) ∨
  (((nextInput s).xirq = true → s.ccr.getLsbD 6 = true) ∧ ∃ r : Request, (nextInput s).irq = some r ∧
    r.deliverable = true ∧ s.ccr.getLsbD 4 = false ∧ s.ipl < r.level ∧ delayed = false ∧
    offset = r.offset ∧ setsX = false ∧ level = r.level)

/-- No access of the next step is one the device answers with the illegal-address reset (60_exceptions.md R851, 92 D10). -/
def Permitted (s : State) : Prop := illegalAccess (nextInput s) s.nextSample = false

/-- What a reset of kind `k` makes of memory (70_reset_and_hazards.md R902): every byte stays but for device registers,
which take their reset content, and for RAM that does not retain its bytes, of which nothing is said. -/
def MemoryReset (k : ResetKind) (s t : State) : Prop :=
  ∀ key < Memory.limit, match regionKind s.device.regions key with
    | .ram => s.device.retains k key = true → Memory.read t.mem key = Memory.read s.mem key
    | .register b => Memory.read t.mem key = b.atReset
    | .rom | .unimplemented => Memory.read t.mem key = Memory.read s.mem key

/-- `n` steps in a row, stopping at the first that has no next state. -/
def run : Nat → State → Host.Outcome State Fault Refusal
  | 0, s => .next s
  | n + 1, s =>
    match step s with
    | .next t => run n t
    | .fault f => .fault f
    | .refused r => .refused r

/-- A safe step: it answers a next state, or it refuses for one of the two reasons the spec itself gives
(92_eei_decisions.md D4, D5, D14). -/
def SafeStep (s : State) : Prop :=
  (∃ t, step s = .next t) ∨ (∃ e, step s = .refused (.outsideEncoding e)) ∨ step s = .refused .staleFetch

end Sys2Proof.Safety
end

