-- ==== Sys2Proof/Certificates/Slice0/Obligations.lean ====
section
/-! DEFINITION. The statements for the provers, in the terms of Safety.lean. -/

open Sys2Proof Sys2Proof.Machine Sys2Proof.Safety

/-! ## Encoding -/

/-- Words written out from 30_encoding.md R105 to R111 and 31_indexed_postbyte.md R163 decode to their instructions. -/
def Obligations.WrittenWordsDecode : Prop :=
  decode [0x86, 0x80] = .ok (.ldaa (.imm 0x80), []) ∧
  decode [0x6B, 0x58] = .ok (.stab (.idx (.off5 .y 0x18)), []) ∧
  decode [0xE6, 0xE9, 0xEC] = .ok (.ldab (.mem (.idx (.off9 .y 0x1EC))), []) ∧
  decode [0xA6, 0xE3, 0x00, 0x0A] = .ok (.ldaa (.mem (.idx (.ind16 .x 0x000A))), []) ∧
  decode [0x18, 0x02, 0x31, 0x63] = .ok (.movw (.mem (.idx (.auto .x true 1))) (.idx (.auto .y false 3)), []) ∧
  decode [0x18, 0x18, 0x00] = .ok (.maxa (.off5 .x 0), []) ∧
  decode [0x04, 0x31, 0xFB] = .ok (.dbne .b 0x1FB, []) ∧
  decode [0xB7, 0xC5] = .ok (.exg false .d .x, []) ∧
  decode [0x4A, 0x80, 0x00, 0x07] = .ok (.call (.ext 0x8000 0x07), []) ∧
  decode [0x18, 0x3E] = .ok (.stop, []) ∧ decode [0x18, 0x30] = .ok (.trap 0x30, []) ∧
  decode [0x05, 0xFF] = .ok (.jmp (.idx (.indD .pc)), [])

/-- Decoding the object code of a well-formed instruction gives it back (a second name gives its core instruction,
30_encoding.md R111) and leaves the bytes after it. -/
def Obligations.DecodeEncodeRoundTrip : Prop :=
  ∀ (i : Instr) (rest : List Byte), i.wf = true → decode (encode i ++ rest) = .ok (i.canon, rest)

/-- What the decoder answers is well-formed and a core instruction, it consumes one to eight bytes from the front, and it
never runs out of bytes when eight are given (30_encoding.md R100, R109). -/
def Obligations.DecodeAnswersWellFormed : Prop :=
  (∀ (bs rest : List Byte) (i : Instr), decode bs = .ok (i, rest) →
    i.wf = true ∧ i.canon = i ∧ ∃ used : List Byte, bs = used ++ rest ∧ 1 ≤ used.length ∧ used.length ≤ 8) ∧
  ∀ bs : List Byte, 8 ≤ bs.length → decode bs ≠ .error .truncated

/-- Encodings the spec gives no meaning are refused by name: the loop postbytes of 47_branch_loop_jump.md R745, and the
postbytes that 31_indexed_postbyte.md R160 leaves out: the indirect ones for BSET, BCLR, BRSET, BRCLR, LEAX, LEAY, LEAS and
BTAS, every one but IDX (indirect, 9-bit, 16-bit) for TBL and ETBL. -/
def Obligations.ReservedPostbytesRefused : Prop :=
  (∀ (lb rr : Byte) (rest : List Byte),
    (lb.extractLsb' 6 2 = 3#2 ∨ lb.extractLsb' 0 3 = 2#3 ∨ lb.extractLsb' 0 3 = 3#3) →
    decode (0x04 :: lb :: rr :: rest) = .error .reservedLoopCode) ∧
  (∀ (op : Byte) (r : IdxReg) (n : Word) (p q : Byte) (rest : List Byte),
    op ∈ [0x0C#8, 0x0D#8, 0x0E#8, 0x0F#8, 0x19#8, 0x1A#8, 0x1B#8] →
    decode (op :: ((Idx.ind16 r n).bytes ++ p :: q :: rest)) = .error .reservedPostbyte ∧
    decode (op :: ((Idx.indD r).bytes ++ p :: q :: rest)) = .error .reservedPostbyte) ∧
  (∀ (r : IdxReg) (n : Word) (p : Byte) (rest : List Byte),
    decode (0x18 :: 0x37 :: ((Idx.ind16 r n).bytes ++ p :: rest)) = .error .reservedPostbyte ∧
    decode (0x18 :: 0x37 :: ((Idx.indD r).bytes ++ p :: rest)) = .error .reservedPostbyte) ∧
  ∀ (op : Byte) (r : IdxReg) (n : Word) (m : BitVec 9) (rest : List Byte), op ∈ [0x3D#8, 0x3F#8] →
    decode (0x18 :: op :: ((Idx.ind16 r n).bytes ++ rest)) = .error .reservedPostbyte ∧
    decode (0x18 :: op :: ((Idx.indD r).bytes ++ rest)) = .error .reservedPostbyte ∧
    decode (0x18 :: op :: ((Idx.off9 r m).bytes ++ rest)) = .error .reservedPostbyte ∧
    decode (0x18 :: op :: ((Idx.off16 r n).bytes ++ rest)) = .error .reservedPostbyte

/-- The 29 unimplemented page-2 opcodes decode to TRAP with their second byte, and no other opcode of page 2 does
(30_encoding.md R107). -/
def Obligations.UnimplementedOpcodesAreTraps : Prop :=
  trapCodes.length = 29 ∧ trapCodes.Nodup ∧
  (∀ (tn : Byte) (rest : List Byte), tn ∈ trapCodes → decode (0x18 :: tn :: rest) = .ok (.trap tn, rest)) ∧
  ∀ (op tn : Byte) (bs rest : List Byte), decode (op :: bs) = .ok (.trap tn, rest) →
    op = 0x18 ∧ tn ∈ trapCodes ∧ bs = tn :: rest

/-! ## The machine as a whole -/

/-- Every well-formed instruction answers a next state, in every state (00_scope.md R6: no privilege, nothing faults); `exec`
refuses an instruction whose operand no encoding of it expresses (31_indexed_postbyte.md R160, 92 D4; log 26). -/
def Obligations.CompletesExactlyWhenWellFormed : Prop :=
  ∀ (i : Instr) (s : State),
    (i.wf = true → ∃ t, exec i s = .next t) ∧ (i.wf = false → exec i s = .refused .reservedForm)

/-- A second name and its core instruction do the same (30_encoding.md R111). -/
def Obligations.SecondNamesRunAsCore : Prop :=
  ∀ (i : Instr) (s : State), exec i s = exec i.canon s

/-- When nothing is recognised and the bytes at PC, none of them stored since the last change of flow, decode to `i`, and the
device answers no access of it with the illegal-address reset (60_exceptions.md R851), a step is `exec i` with PC behind the
instruction, the I delay over and the environment's sample used (the model's conventions: logs 10, 15, 16, 48). -/
def Obligations.StepRunsDecoded : Prop :=
  ∀ (s : State) (i : Instr) (rest : List Byte),
    s.run = .running → NothingRecognised s s.iDelay → Permitted s →
    decode (s.nextSample.bytesAt s.pc 8) = .ok (i, rest) → s.staleAt s.pc (8 - rest.length) = false →
    step s = exec i { s with
      pc := s.pc + BitVec.ofNat 16 (8 - rest.length), iDelay := false, inputs := s.inputs.tail, free := s.free + 1 }

/-- Every step answers a next state or one of the two refusals of 92_eei_decisions.md (D4 and D5; D14): no fault exists
(60_exceptions.md R843, R870). -/
def Obligations.EveryStepIsSafe : Prop := ∀ s : State, SafeStep s

/-- Every step keeps memory in its canonical form: addresses strictly rising, below the limit, no byte listed that reads as
unlisted anyway (the model's form; log 11). -/
def Obligations.StepKeepsMemoryForm : Prop :=
  ∀ s t : State, MemoryForm s → step s = .next t → MemoryForm t

/-- What reset leaves, where the spec gives a value (70_reset_and_hazards.md R900, R903): S, X and I set, IPL 0, running at
the address in the vector $FFFE, DIRECT $00, the vector base $FF (the spec's own choices D9, D20, D21; logs 4, 7); memory is in
its canonical form (log 11). -/
def Obligations.ResetValues : Prop :=
  State.reset.ccr.getLsbD 7 = true ∧ State.reset.ccr.getLsbD 6 = true ∧ State.reset.ccr.getLsbD 4 = true ∧
  State.reset.ipl = 0 ∧ State.reset.run = .running ∧ State.reset.pc = State.reset.readWord 0xFFFE ∧
  State.reset.direct = 0x00 ∧ State.reset.vb = 0xFF ∧ MemoryForm State.reset

/-- The X bit, once clear, is set by the end of a reset or by taking an XIRQ and by nothing else (10_state.md R33,
00_scope.md R6). -/
def Obligations.OnlyResetOrXirqSetsX : Prop :=
  ∀ s t : State, step s = .next t → s.ccr.getLsbD 6 = false → t.ccr.getLsbD 6 = true →
    (nextInput s).reset = none ∧ ((∃ k, s.run = .inReset k) ∨ (nextInput s).xirq = true)

/-- No step changes a device parameter.  GPAGE, DIRECT and the vector base change only by the end of a reset or by a store
to the logical address the device maps them at, PPAGE besides by CALL and RTC (10_state.md R37 to R40): a step whose
accesses hold no store to a register's address leaves the register alone, so a register the device does not map never
changes but by a reset (the parameters and the accesses of a step, logs 12, 48). -/
def Obligations.PageRegistersChangeOnlyByStores : Prop :=
  ∀ s t : State, step s = .next t →
    t.device = s.device ∧
    ((∀ k, s.run ≠ .inReset k) →
      (s.device.gpageAddr = none → t.gpage = s.gpage) ∧ (s.device.directAddr = none → t.direct = s.direct) ∧
      (s.device.vbAddr = none → t.vb = s.vb) ∧
      ∀ r : PageReg,
        (∀ c ∈ stepAccesses (nextInput s) s.nextSample, ∀ a : Word,
          c.kind = .write → c.logical = some a → s.device.registerAt a ≠ some r) →
        (r = .ppage → ∀ (i : Instr) (length : Nat), s.nextSample.fetch = .ok (i, length) →
          i ≠ .rtc ∧ ∀ target, i ≠ .call target) →
        t.pageReg r = s.pageReg r)

/-! ## Memory and addressing -/

/-- Memory accesses (20_memory.md R62, R63, R69): a word is the byte at the lower address, then the one after it; in RAM a
byte store is read back, and a word store leaves the high byte at the lower address; a byte stored through the window
$8000 to $BFFF belongs to the page that PPAGE named, and no other page shows it (the paged space of log 11). -/
def Obligations.MemoryAccesses : Prop :=
  (∀ (s : State) (a : Word), s.readWord a = s.readByte a ++ s.readByte (a + 1)) ∧
  (∀ (s : State) (a : Word) (v : Byte), MemoryForm s → IsRam s a → (s.writeByte a v).readByte a = v) ∧
  (∀ (s : State) (a v : Word), MemoryForm s → IsRam s a → IsRam s (a + 1) →
    (s.writeWord a v).readByte a = v.extractLsb' 8 8 ∧ (s.writeWord a v).readByte (a + 1) = v.extractLsb' 0 8) ∧
  ∀ (s : State) (a : Word) (v p : Byte), MemoryForm s → IsRam s a → s.device.expanded = true →
    0x8000 ≤ a.toNat → a.toNat ≤ 0xBFFF →
    ((s.writeByte a v).setPpage p).readByte a = if p = s.ppage then v else (s.setPpage p).readByte a

/-- Effective addresses: DIRECT:dd and hh:ll (20_memory.md R70, 30_encoding.md R102), and each class of indexed operand
(31_indexed_postbyte.md R143 to R151) with its base `b`; auto modify (R147) adjusts by +1 to +8 or -8 to -1, takes the address
before or after it and changes no other register or memory; the other classes change nothing at all. -/
def Obligations.EffectiveAddresses : Prop :=
  (∀ (s : State) (dd : Byte) (w : Word), (Ea.dir dd).addr s = s.direct ++ dd ∧ (Ea.ext w).addr s = w) ∧
  (∀ (s : State) (pcRef : Word) (r : IdxReg),
    let b := match r with
      | .x => s.x
      | .y => s.y
      | .sp => s.sp
      | .pc => pcRef
    (∀ n : BitVec 5, ((Idx.off5 r n).addr s pcRef).toNat = ((b.toNat : Int) + n.toInt) % 65536) ∧
    (∀ n : BitVec 9, ((Idx.off9 r n).addr s pcRef).toNat = ((b.toNat : Int) + n.toInt) % 65536) ∧
    (∀ n : Word, ((Idx.off16 r n).addr s pcRef).toNat = (b.toNat + n.toNat) % 65536) ∧
    ((Idx.acc r .a).addr s pcRef).toNat = (b.toNat + s.a.toNat) % 65536 ∧
    ((Idx.acc r .b).addr s pcRef).toNat = (b.toNat + s.b.toNat) % 65536 ∧
    ((Idx.acc r .d).addr s pcRef).toNat = (b.toNat + s.a.toNat * 256 + s.b.toNat) % 65536 ∧
    (∀ n : Word, (Idx.ind16 r n).addr s pcRef = s.readWord (b + n)) ∧
    (Idx.indD r).addr s pcRef = s.readWord (b + (s.a ++ s.b))) ∧
  (∀ (s : State) (pcRef : Word) (r : AutoReg) (post : Bool) (n : BitVec 4),
    let adjust : Int := if n.toNat < 8 then n.toNat + 1 else (n.toNat : Int) - 16
    let t := (Idx.auto r post n).update s
    let old := s.autoReg r
    let new := t.autoReg r
    (new.toNat : Int) = ((old.toNat : Int) + adjust) % 65536 ∧
    (Idx.auto r post n).addr s pcRef = (if post then old else new) ∧
    Keeps [match r with | .x => .x | .y => .y | .sp => .sp] s t) ∧
  ∀ (s : State) (i : Idx), (∀ r post n, i ≠ .auto r post n) → i.update s = s

/-! ## Loads, stores, moves -/

/-- LDAA, LDAB, LDD, LDS, LDX, LDY (40_load_store_move.md R200); an auto-modified register that is also loaded ends with the
loaded word (92 D7; log 24). -/
def Obligations.LoadsSetRegisterAndFlags : Prop :=
  Loads8 .ldaa State.a [.a] ∧ Loads8 .ldab State.b [.b] ∧ Loads16 .ldd State.d [.a, .b] ∧
  Loads16 .lds State.sp [.sp] ∧ Loads16 .ldx State.x [.x] ∧ Loads16 .ldy State.y [.y]

/-- STAA, STAB, STD, STS, STX, STY (40_load_store_move.md R207); an auto-modified register that is also stored is stored
as updated (92 D7; log 24), a word as two ascending byte stores (92 D1; log 14).  Of what a store leaves, that ROM and
unimplemented addresses ignore it is the model's choice (log 13), the form of a device register log 47. -/
def Obligations.StoresWriteRegisterToMemory : Prop :=
  Stores8 .staa State.a ∧ Stores8 .stab State.b ∧ Stores16 .std State.d ∧ Stores16 .sts State.sp ∧
  Stores16 .stx State.x ∧ Stores16 .sty State.y

/-- LEAS, LEAX, LEAY (31_indexed_postbyte.md R150, 40_load_store_move.md R214) and the assembler's ABX, ABY, DES, INS
(R217 to R220): the register takes the address, after the index register's own update; flags and memory stay. -/
def Obligations.LoadEffectiveAddress : Prop :=
  (∀ (i : Idx) (s : State), i.isDirect = true →
    (Completes (.leas i) s fun t => t.sp = i.addr s s.pc ∧ Keeps [.sp] (i.update s) t) ∧
    (Completes (.leax i) s fun t => t.x = i.addr s s.pc ∧ Keeps [.x] (i.update s) t) ∧
    (Completes (.leay i) s fun t => t.y = i.addr s s.pc ∧ Keeps [.y] (i.update s) t)) ∧
  ∀ s : State,
    (Completes .abx s fun t => t.x.toNat = (s.x.toNat + s.b.toNat) % 65536 ∧ Keeps [.x] s t) ∧
    (Completes .aby s fun t => t.y.toNat = (s.y.toNat + s.b.toNat) % 65536 ∧ Keeps [.y] s t) ∧
    (Completes .des s fun t => t.sp = s.sp - 1 ∧ Keeps [.sp] s t) ∧
    (Completes .ins s fun t => t.sp = s.sp + 1 ∧ Keeps [.sp] s t)

/-- GLDAA to GLDY and GSTAA to GSTY (40_load_store_move.md R221, 20_memory.md R72); no carry into GPAGE (92 D11; log 43),
the index register updated first (92 D7; log 24).  That a global store leaves every logical and paged address alone is the
model's choice (log 11), and so is that ROM and unimplemented addresses ignore it (log 13). -/
def Obligations.GlobalLoadsAndStores : Prop :=
  GlobalLoads8 .gldaa State.a [.a] ∧ GlobalLoads8 .gldab State.b [.b] ∧ GlobalLoads16 .gldd State.d [.a, .b] ∧
  GlobalLoads16 .glds State.sp [.sp] ∧ GlobalLoads16 .gldx State.x [.x] ∧ GlobalLoads16 .gldy State.y [.y] ∧
  GlobalStores8 .gstaa State.a ∧ GlobalStores8 .gstab State.b ∧ GlobalStores16 .gstd State.d ∧
  GlobalStores16 .gsts State.sp ∧ GlobalStores16 .gstx State.x ∧ GlobalStores16 .gsty State.y

/-- MOVB and MOVW (40_load_store_move.md R229, R237, R238): the source is read with its own update first, the
destination's address sees that update; flags stay.  A PC-relative source counts from PCnext less the destination's
extension bytes (R230, 92 D8; log 25).  Of what a store leaves, that ROM and unimplemented addresses ignore it is the
model's choice (log 13), the form of a device register log 47. -/
def Obligations.MovesCopySourceToDestination : Prop :=
  (∀ (src : MoveSrc8) (dst : Xea) (s : State), MemoryForm s → Completes (.movb src dst) s fun t =>
    StoresByte [] (dst.update (src.update s)) t (dst.addr (src.update s) s.pc) (src.value dst s)) ∧
  (∀ (src : MoveSrc16) (dst : Xea) (s : State), MemoryForm s → Completes (.movw src dst) s fun t =>
    StoresWord [] (dst.update (src.update s)) t (dst.addr (src.update s) s.pc) (src.value dst s)) ∧
  ∀ (s : State) (n : Word) (r : IdxReg) (k : BitVec 9) (m : Word),
    (MoveSrc8.mem (.idx (.off16 .pc n))).value (.ext m) s = s.readByte (s.pc + n) ∧
    (MoveSrc8.mem (.idx (.off16 .pc n))).value (.idx (.off9 r k)) s = s.readByte (s.pc - 1 + n) ∧
    (MoveSrc16.mem (.idx (.off16 .pc n))).value (.idx (.off16 r m)) s = s.readWord (s.pc - 2 + n) ∧
    (MoveSrc16.mem (.idx (.off16 .pc n))).value (.idx (.ind16 r m)) s = s.readWord (s.pc - 2 + n)

/-! ## Transfer and exchange -/

/-- TFR, original set (41_transfer_exchange.md R303): `v` is the source as 16 bits, an 8-bit register sign-extended, any
value for TMP3; an 8-bit destination takes its low byte; CCR is written under R302. TFR, extended set
(41_transfer_exchange.md R304), for word sources: `v` is the source as 16 bits, CCR being 00000:IPL:CCR, any value for a
TMP register; A takes its high byte, B its low byte; D to X and D to Y give the sign fill. A and B as sources write the
high and the low half of the destination, and are sign-extended into D.  The I delay after a TFR into CCR is the spec's
own decision D26 (log 29). -/
def Obligations.Transfers : Prop :=
  (∀ (src dst : RegCode) (s : State), Completes (.tfr false src dst) s fun t => ∃ v : Word,
    (match src with
      | .a => v.toInt = s.a.toInt
      | .b => v.toInt = s.b.toInt
      | .ccr => v.toInt = s.ccr.toInt
      | .tmp => True
      | .d => v = s.a ++ s.b
      | .x => v = s.x
      | .y => v = s.y
      | .sp => v = s.sp) ∧
    (match dst with
      | .a => t.a = v.extractLsb' 0 8 ∧ Keeps [.a, .free] s t
      | .b => t.b = v.extractLsb' 0 8 ∧ Keeps [.b, .free] s t
      | .ccr => WritesCcr [.free] (v.extractLsb' 0 8) s t
      | .tmp => t.tmp2 = v ∧ Keeps [.free] s t
      | .d => t.a ++ t.b = v ∧ Keeps [.a, .b, .free] s t
      | .x => t.x = v ∧ Keeps [.x, .free] s t
      | .y => t.y = v ∧ Keeps [.y, .free] s t
      | .sp => t.sp = v ∧ Keeps [.sp, .free] s t) ∧
    (src ≠ .tmp → t.free = s.free)) ∧
  (∀ (src dst : RegCode) (s : State), src ≠ .a → src ≠ .b → Completes (.tfr true src dst) s fun t => ∃ v : Word,
    (match src with
      | .ccr => v = 0#5 ++ s.ipl ++ s.ccr
      | .d => v = s.a ++ s.b
      | .x => v = s.x
      | .y => v = s.y
      | .sp => v = s.sp
      | .a | .b | .tmp => True) ∧
    (match dst with
      | .a => t.a = (if src = .d then s.b else v.extractLsb' 8 8) ∧ Keeps [.a, .free] s t
      | .b => t.b = v.extractLsb' 0 8 ∧ Keeps [.b, .free] s t
      | .ccr => t.ipl = v.extractLsb' 8 3 ∧ WritesCcr [.ipl, .free] (v.extractLsb' 0 8) s t
      | .tmp => (if src = .d then t.tmp1 = v else t.tmp2 = v) ∧ Keeps [.free] s t
      | .d => t.a ++ t.b = v ∧ Keeps [.a, .b, .free] s t
      | .x => t.x = (if src = .d then (if v.toInt < 0 then 0xFFFF else 0x0000) else v) ∧ Keeps [.x, .free] s t
      | .y => t.y = (if src = .d then (if v.toInt < 0 then 0xFFFF else 0x0000) else v) ∧ Keeps [.y, .free] s t
      | .sp => t.sp = v ∧ Keeps [.sp, .free] s t)) ∧
  (∀ (dst : RegCode) (s : State), Completes (.tfr true .a dst) s fun t =>
    match dst with
    | .a => Keeps [] s t
    | .b => t.b = s.a ∧ Keeps [.b] s t
    | .ccr => t.ipl = s.a.extractLsb' 0 3 ∧ Keeps [.ipl] s t
    | .tmp => t.tmp2 = s.a ++ s.tmp2.extractLsb' 0 8 ∧ Keeps [] s t
    | .d => (t.a ++ t.b : Word).toInt = s.a.toInt ∧ Keeps [.a, .b] s t
    | .x => t.x = s.a ++ s.x.extractLsb' 0 8 ∧ Keeps [.x] s t
    | .y => t.y = s.a ++ s.y.extractLsb' 0 8 ∧ Keeps [.y] s t
    | .sp => t.sp = s.a ++ s.sp.extractLsb' 0 8 ∧ Keeps [.sp] s t) ∧
  (∀ (dst : RegCode) (s : State), Completes (.tfr true .b dst) s fun t =>
    match dst with
    | .a => t.a = s.b ∧ Keeps [.a] s t
    | .b => Keeps [] s t
    | .ccr => WritesCcr [] s.b s t
    | .tmp => t.tmp2 = s.tmp2.extractLsb' 8 8 ++ s.b ∧ Keeps [] s t
    | .d => (t.a ++ t.b : Word).toInt = s.b.toInt ∧ Keeps [.a, .b] s t
    | .x => t.x = s.x.extractLsb' 8 8 ++ s.b ∧ Keeps [.x] s t
    | .y => t.y = s.y.extractLsb' 8 8 ++ s.b ∧ Keeps [.y] s t
    | .sp => t.sp = s.sp.extractLsb' 8 8 ++ s.b ∧ Keeps [.sp] s t)

/-- EXG of every pair of registers of both sets (41_transfer_exchange.md R307 to R309).  Original set: each register takes
the other's old word, an 8-bit one the low byte; a word second operand takes an 8-bit first one zero-extended, a word
first operand takes A behind $00, B or CCR behind $FF; but D and A, D and B as R307 lists them.  Extended set: A exchanges
with high halves and B with low halves, words exchange, CCR being CCRW.  CCR is written under the X rule (R302), with the I
delay that is the spec's own decision D26 (log 29); of a value read from a TMP register nothing is said (log 5). -/
def Obligations.Exchanges : Prop :=
  (∀ (p q : RegCode) (s : State), Completes (.exg false p q) s fun t =>
    Keeps (.free :: (codeFields p ++ codeFields q)) s t ∧ (p ≠ .tmp → q ≠ .tmp → t.free = s.free) ∧
    ∃ tmp3 tmp2 : Word,
      let word (tmp : Word) := exchangeWord s tmp (0x00#8 ++ s.ccr)
      match p, q with
      | .d, .a => t.a = s.b ∧ t.b = s.a
      | .a, .d => t.a = 0x00 ∧ t.b = s.a
      | .b, .d => t.a = 0x00 ∧ t.b = s.b
      | .d, .b => t.a = 0xFF ∧ t.b = s.b
      | p, q =>
        let into := match q with
          | .b | .ccr => if p = .tmp ∨ p = .x ∨ p = .y ∨ p = .sp ∨ p = .d then 0xFF00#16 ||| word tmp2 q else word tmp2 q
          | .a | .tmp | .d | .x | .y | .sp => word tmp2 q
        TakesWord false State.tmp3 s t into p ∧ TakesWord false State.tmp2 s t (word tmp3 p) q) ∧
  ∀ (p q : RegCode) (s : State), Completes (.exg true p q) s fun t =>
    match p, q with
    | .a, .a | .b, .b => Keeps [] s t
    | .a, .b | .b, .a | .d, .a => t.a = s.b ∧ t.b = s.a ∧ Keeps [.a, .b] s t
    | .a, .d => t.a = 0x00 ∧ t.b = s.a ∧ Keeps [.a, .b] s t
    | .b, .d => t.a = 0x00 ∧ t.b = s.b ∧ Keeps [.a] s t
    | .d, .b => t.a = 0xFF ∧ t.b = s.b ∧ Keeps [.a] s t
    | .a, q => SwapsHigh State.tmp2 s t q
    | .b, q => SwapsLow State.tmp2 s t q
    | p, .a => SwapsHigh State.tmp3 s t p
    | p, .b => SwapsLow State.tmp3 s t p
    | p, q =>
      Keeps (.free :: (codeFields p ++ codeFields q)) s t ∧ (p ≠ .tmp → q ≠ .tmp → t.free = s.free) ∧
      ∃ first second : Word,
        let word (tmp : Word) := exchangeWord s tmp (0#5 ++ s.ipl ++ s.ccr)
        TakesWord true (if q = .d then State.tmp1 else State.tmp3) s t (word second q) p ∧
        TakesWord true (if p = .d then State.tmp1 else State.tmp2) s t (word first p) q

/-- TAB and TBA set N, Z, V (41_transfer_exchange.md R310, R311); SEX sign-extends (R306); TPA, TSX, TSY, TXS, TYS, XGDX,
XGDY move or exchange registers and no flag (R313 to R319). -/
def Obligations.RegisterMoves : Prop :=
  ∀ s : State,
    (Completes .tab s fun t => t.b = s.a ∧ Effect [.b] (.nz s.a (some false) none) s t) ∧
    (Completes .tba s fun t => t.a = s.b ∧ Effect [.a] (.nz s.b (some false) none) s t) ∧
    (∀ (src : SexSrc) (dst : SexDst), Completes (.sex (.byte src dst)) s fun t => ∃ v : Word,
      v.toInt = (match src with | .a => s.a | .b => s.b | .ccr => s.ccr).toInt ∧
      match dst with
      | .tmp2 => t.tmp2 = v ∧ Keeps [] s t
      | .d => t.d = v ∧ Keeps [.a, .b] s t
      | .x => t.x = v ∧ Keeps [.x] s t
      | .y => t.y = v ∧ Keeps [.y] s t
      | .sp => t.sp = v ∧ Keeps [.sp] s t) ∧
    (Completes (.sex .aToD) s fun t => t.d.toInt = s.a.toInt ∧ Keeps [.a, .b] s t) ∧
    (Completes (.sex .bToD) s fun t => t.d.toInt = s.b.toInt ∧ Keeps [.a, .b] s t) ∧
    (Completes (.sex .dToX) s fun t => (t.x ++ s.d : BitVec 32).toInt = s.d.toInt ∧ Keeps [.x] s t) ∧
    (Completes (.sex .dToY) s fun t => (t.y ++ s.d : BitVec 32).toInt = s.d.toInt ∧ Keeps [.y] s t) ∧
    (Completes .tpa s fun t => t.a = s.ccr ∧ Keeps [.a] s t) ∧
    (Completes .tsx s fun t => t.x = s.sp ∧ Keeps [.x] s t) ∧
    (Completes .tsy s fun t => t.y = s.sp ∧ Keeps [.y] s t) ∧
    (Completes .txs s fun t => t.sp = s.x ∧ Keeps [.sp] s t) ∧
    (Completes .tys s fun t => t.sp = s.y ∧ Keeps [.sp] s t) ∧
    (Completes .xgdx s fun t => t.d = s.x ∧ t.x = s.d ∧ Keeps [.a, .b, .x] s t) ∧
    (Completes .xgdy s fun t => t.d = s.y ∧ t.y = s.d ∧ Keeps [.a, .b, .y] s t)

/-! ## Arithmetic -/

/-- ADDA, ADDB, ADCA, ADCB and ABA (42_add_sub_compare.md R350). -/
def Obligations.ByteAdditions : Prop :=
  AddsByte .adda State.a [.a] false ∧ AddsByte .addb State.b [.b] false ∧
  AddsByte .adca State.a [.a] true ∧ AddsByte .adcb State.b [.b] true ∧
  ∀ s : State, Completes .aba s fun t =>
    t.a.toNat = (s.a.toNat + s.b.toNat) % 256 ∧
    Effect [.a] { sumFlags s.a s.b t.a 0 with h := some (decide (15 < s.a.toNat % 16 + s.b.toNat % 16)) } s t

/-- ADDD, ADDX, ADDY, and ADED, ADEX, ADEY with their sticky Z (42_add_sub_compare.md R351, R353).  An auto-modified X or Y
is the operand after its update (92 D7; log 24). -/
def Obligations.WordAdditions : Prop :=
  AddsWord .addd State.d [.a, .b] false ∧ AddsWord .addx State.x [.x] false ∧ AddsWord .addy State.y [.y] false ∧
  AddsWord .aded State.d [.a, .b] true ∧ AddsWord .adex State.x [.x] true ∧ AddsWord .adey State.y [.y] true

/-- SUBA, SUBB, SBCA, SBCB and SBA, SUBD, SUBX, SUBY (42_add_sub_compare.md R352), and SBED, SBEX, SBEY with their sticky Z
(R353).  An auto-modified X or Y is the operand after its update (92 D7; log 24). -/
def Obligations.Subtractions : Prop :=
  SubtractsWord .subd State.d [.a, .b] false ∧ SubtractsWord .subx State.x [.x] false ∧
  SubtractsWord .suby State.y [.y] false ∧ SubtractsWord .sbed State.d [.a, .b] true ∧
  SubtractsWord .sbex State.x [.x] true ∧ SubtractsWord .sbey State.y [.y] true ∧
  SubtractsByte .suba State.a [.a] false ∧ SubtractsByte .subb State.b [.b] false ∧
  SubtractsByte .sbca State.a [.a] true ∧ SubtractsByte .sbcb State.b [.b] true ∧
  ∀ s : State, Completes .sba s fun t =>
    (t.a.toNat : Int) = ((s.a.toNat : Int) - s.b.toNat) % 256 ∧ Effect [.a] (differenceFlags s.a s.b t.a 0) s t

/-- CMPA, CMPB, CBA, CPD, CPS, CPX, CPY, and CPED, CPES, CPEX, CPEY with their sticky Z (42_add_sub_compare.md R376,
R353).  An auto-modified X, Y or SP is the operand after its update (92 D7; log 24). -/
def Obligations.ComparesSetFlagsOnly : Prop :=
  ComparesByte .cmpa State.a ∧ ComparesByte .cmpb State.b ∧
  ComparesWord .cpd State.d false ∧ ComparesWord .cps State.sp false ∧ ComparesWord .cpx State.x false ∧
  ComparesWord .cpy State.y false ∧ ComparesWord .cped State.d true ∧ ComparesWord .cpes State.sp true ∧
  ComparesWord .cpex State.x true ∧ ComparesWord .cpey State.y true ∧
  ∀ s : State, Completes .cba s fun t => ∃ r : Byte,
    (r.toNat : Int) = ((s.a.toNat : Int) - s.b.toNat) % 256 ∧ Effect [] (differenceFlags s.a s.b r 0) s t

/-- DAA (42_add_sub_compare.md R387, the closed form applied to every input by 92 D13; log 23): the corrections, C the high
one, N and Z from the result, V unspecified, H unchanged; and BCD bytes added with ABA and adjusted give the BCD sum. -/
def Obligations.DecimalAdjust : Prop :=
  (∀ s : State, Completes .daa s fun t =>
    let lo := s.ccr.getLsbD 5 = true ∨ 9 < s.a.toNat % 16
    let hi := s.ccr.getLsbD 0 = true ∨ 9 < s.a.toNat / 16 ∨ (s.a.toNat / 16 = 9 ∧ 9 < s.a.toNat % 16)
    (lo → hi → t.a.toNat = (s.a.toNat + 0x66) % 256) ∧ (lo → ¬ hi → t.a.toNat = (s.a.toNat + 0x06) % 256) ∧
    (¬ lo → hi → t.a.toNat = (s.a.toNat + 0x60) % 256) ∧ (¬ lo → ¬ hi → t.a = s.a) ∧
    (t.ccr.getLsbD 0 = true ↔ hi) ∧ (t.ccr.getLsbD 3 = true ↔ 128 ≤ t.a.toNat) ∧
    (t.ccr.getLsbD 2 = true ↔ t.a.toNat = 0) ∧ SameCcrOutside 0x0F s.ccr t.ccr ∧ Keeps [.a, .ccr, .free] s t) ∧
  ∀ (s t : State) (p q : Nat), p < 100 → q < 100 →
    s.a.toNat = p / 10 * 16 + p % 10 → s.b.toNat = q / 10 * 16 + q % 10 → exec .aba s = .next t →
    Completes .daa t fun u =>
      u.a.toNat = (p + q) % 100 / 10 * 16 + (p + q) % 10 ∧ (u.ccr.getLsbD 0 = true ↔ 100 ≤ p + q)

/-! ## Logic and bits -/

/-- ANDA to ORY (43_logic_bit.md R450 to R466), and BITA, BITB, BITX, BITY (R455 to R458), which set the flags alone.  An
auto-modified X or Y is the operand after its update (92 D7; log 24). -/
def Obligations.BitwiseLogic : Prop :=
  CombinesByte .anda State.a [.a] (· && ·) ∧ CombinesByte .andb State.b [.b] (· && ·) ∧
  CombinesWord .andx State.x [.x] (· && ·) ∧ CombinesWord .andy State.y [.y] (· && ·) ∧
  CombinesByte .oraa State.a [.a] (· || ·) ∧ CombinesByte .orab State.b [.b] (· || ·) ∧
  CombinesWord .orx State.x [.x] (· || ·) ∧ CombinesWord .ory State.y [.y] (· || ·) ∧
  CombinesByte .eora State.a [.a] (· != ·) ∧ CombinesByte .eorb State.b [.b] (· != ·) ∧
  CombinesWord .eorx State.x [.x] (· != ·) ∧ CombinesWord .eory State.y [.y] (· != ·) ∧
  TestsByte .bita State.a ∧ TestsByte .bitb State.b ∧ TestsWord .bitx State.x ∧ TestsWord .bity State.y

/-- BSET, BCLR, BTAS (43_logic_bit.md R467 to R470).  Of what a store leaves, that ROM and unimplemented addresses ignore
it is the model's choice (log 13), the form of a device register log 47. -/
def Obligations.BitManipulation : Prop :=
  ManipulatesBits .bset (fun m k => m ||| k) (fun m k => m ||| k) ∧
  ManipulatesBits .bclr (fun m k => m &&& ~~~k) (fun m k => m &&& ~~~k) ∧
  ManipulatesBits .btas (fun m k => m ||| k) (fun m k => m &&& k)

/-! ## One-operand arithmetic and shifts -/

/-- CLR, COM, NEG on A, B, X, Y, a byte and a word of memory (44_inc_dec_clr_com_neg_tst.md R521, R527, R534), and TST in
its six forms (R560), which sets the flags alone.  Of what a store leaves, that ROM and unimplemented addresses ignore it
is the model's choice (log 13), the form of a device register log 47. -/
def Obligations.ClearComplementNegateTest : Prop :=
  OnAll .clra .clrb .clrx .clry .clr .clrw clearing ∧ OnAll .coma .comb .comx .comy .com .comw complementing ∧
  OnAll .nega .negb .negx .negy .neg .negw negating ∧
  ∀ s : State,
    (Completes .tsta s (Effect [] (.nz s.a (some false) (some false)) s)) ∧
    (Completes .tstb s (Effect [] (.nz s.b (some false) (some false)) s)) ∧
    (Completes .tstx s (Effect [] (.nz s.x (some false) (some false)) s)) ∧
    (Completes .tsty s (Effect [] (.nz s.y (some false) (some false)) s)) ∧
    ∀ ea : Xea,
      (Completes (.tst ea) s
        (Effect [] (.nz (s.readByte (ea.addr s s.pc)) (some false) (some false)) (ea.update s))) ∧
      (Completes (.tstw ea) s
        (Effect [] (.nz (s.readWord (ea.addr s s.pc)) (some false) (some false)) (ea.update s)))

/-- DEC and INC on A, B, X, Y, a byte and a word of memory (44_inc_dec_clr_com_neg_tst.md R541, R551); DEX, DEY, INX, INY
set Z alone (R548).  Of what a store leaves, that ROM and unimplemented addresses ignore it is the model's choice (log
13), the form of a device register log 47. -/
def Obligations.DecrementIncrement : Prop :=
  OnAll .deca .decb .decx .decy .dec .decw decrementing ∧ OnAll .inca .incb .incx .incy .inc .incw incrementing ∧
  ∀ s : State,
    (Completes .dex s fun t => t.x = s.x - 1 ∧ Effect [.x] ⟨none, none, some (decide (t.x = 0)), none, none⟩ s t) ∧
    (Completes .dey s fun t => t.y = s.y - 1 ∧ Effect [.y] ⟨none, none, some (decide (t.y = 0)), none, none⟩ s t) ∧
    (Completes .inx s fun t => t.x = s.x + 1 ∧ Effect [.x] ⟨none, none, some (decide (t.x = 0)), none, none⟩ s t) ∧
    (Completes .iny s fun t => t.y = s.y + 1 ∧ Effect [.y] ⟨none, none, some (decide (t.y = 0)), none, none⟩ s t)

/-- ASL, LSL, ASR, LSR, ROL, ROR on every operand (45_shift_rotate.md R600 to R602).  Of what a store leaves, that ROM and
unimplemented addresses ignore it is the model's choice (log 13), the form of a device register log 47. -/
def Obligations.ShiftsAndRotates : Prop :=
  OnAll .asla .aslb .aslx .asly .asl .aslw arithmeticLeft ∧ OnRegister .asld State.d [.a, .b] (arithmeticLeft 16) ∧
  OnAll .lsla .lslb .lslx .lsly .lsl .lslw arithmeticLeft ∧ OnRegister .lsld State.d [.a, .b] (arithmeticLeft 16) ∧
  OnAll .asra .asrb .asrx .asry .asr .asrw signedRight ∧
  OnAll .lsra .lsrb .lsrx .lsry .lsr .lsrw unsignedRight ∧ OnRegister .lsrd State.d [.a, .b] (unsignedRight 16) ∧
  OnAll .rola .rolb .rolx .roly .rol .rolw carryLeft ∧ OnAll .rora .rorb .rorx .rory .ror .rorw carryRight

/-! ## Multiply, divide, minimum, maximum, tables -/

/-- MUL, EMUL, EMULS (46_mul_div_minmax_table.md R650 to R652): their object code, the product, the flags; each answers a next
state, so it raises no exception. -/
def Obligations.Multiplications : Prop :=
  decode [0x12] = .ok (.mul, []) ∧ decode [0x13] = .ok (.emul, []) ∧ decode [0x18, 0x13] = .ok (.emuls, []) ∧
  ∀ s : State,
    (Completes .mul s fun t => t.d.toNat = s.a.toNat * s.b.toNat ∧
      Effect [.a, .b] ⟨none, none, none, none, some (t.b.getLsbD 7)⟩ s t) ∧
    (Completes .emul s fun t => t.y.toNat * 65536 + t.d.toNat = s.d.toNat * s.y.toNat ∧
      Effect [.a, .b, .y] (.nz (t.y ++ t.d : BitVec 32) none (some (t.d.getLsbD 15))) s t) ∧
    (Completes .emuls s fun t => (t.y ++ t.d : BitVec 32).toInt = s.d.toInt * s.y.toInt ∧
      Effect [.a, .b, .y] (.nz (t.y ++ t.d : BitVec 32) none (some (t.d.getLsbD 15))) s t)

/-- EMACS (46_mul_div_minmax_table.md R653): the signed product of the words at X and Y is added to the 32 bits at hh:ll,
high word stored first (92 D2); V says that the signed sum overflows, C that the low words' sum does.  Of what a store
leaves, that ROM and unimplemented addresses ignore it is the model's choice (log 13), the form of a device register log
47. -/
def Obligations.MultiplyAccumulate : Prop :=
  ∀ (addr : Word) (s : State), MemoryForm s → Completes (.emacs addr) s fun t => ∃ (r : BitVec 32) (m : State),
    let product : Int := (s.readWord s.x).toInt * (s.readWord s.y).toInt
    let old : BitVec 32 := s.readWord addr ++ s.readWord (addr + 2)
    (r.toNat : Int) = ((old.toNat : Int) + product) % 2 ^ 32 ∧
    StoresWord [] s m addr (r.extractLsb' 16 16) ∧ StoresWord [.ccr] m t (addr + 2) (r.extractLsb' 0 16) ∧
    (FlagChange.nz r (some (decide (old.toInt + product < -2147483648 ∨ 2147483647 < old.toInt + product)))
      (some (decide (65536 ≤ (s.readWord (addr + 2)).toNat + (product % 65536).toNat)))).Made s.ccr t.ccr

/-- EDIV and EDIVS (46_mul_div_minmax_table.md R655, R656, rounding by R654 and 92 D23; log 21): quotient to Y and remainder
to D when it fits; on division by zero C = 1, on overflow V = 1 and C = 0, registers unchanged, the other flags
unspecified.
IDIV, IDIVS, FDIV (46_mul_div_minmax_table.md R657 to R659, rounding by R654 and 92 D23, the overflow of IDIVS by D24;
logs 20, 21): quotient to X and remainder to D; what is unspecified is left open. -/
def Obligations.Divisions : Prop :=
  (∀ s : State,
    (Completes .ediv s fun t =>
      let n := s.y.toNat * 65536 + s.d.toNat
      (s.x = 0 → t.ccr.getLsbD 0 = true ∧ SameCcrOutside 0x0F s.ccr t.ccr ∧ Keeps [.ccr, .free] s t) ∧
      (s.x ≠ 0 → 65535 < n / s.x.toNat →
        t.ccr.getLsbD 1 = true ∧ t.ccr.getLsbD 0 = false ∧ SameCcrOutside 0x0F s.ccr t.ccr ∧ Keeps [.ccr, .free] s t) ∧
      (s.x ≠ 0 → n / s.x.toNat ≤ 65535 →
        n = t.y.toNat * s.x.toNat + t.d.toNat ∧ t.d.toNat < s.x.toNat ∧
        Effect [.a, .b, .y] (.nz t.y (some false) (some false)) s t)) ∧
    (Completes .edivs s fun t =>
      let n := (s.y ++ s.d : BitVec 32).toInt
      let q := n.tdiv s.x.toInt
      (s.x = 0 → t.ccr.getLsbD 0 = true ∧ SameCcrOutside 0x0F s.ccr t.ccr ∧ Keeps [.ccr, .free] s t) ∧
      (s.x ≠ 0 → (32767 < q ∨ q < -32768) →
        t.ccr.getLsbD 1 = true ∧ t.ccr.getLsbD 0 = false ∧ SameCcrOutside 0x0F s.ccr t.ccr ∧ Keeps [.ccr, .free] s t) ∧
      (s.x ≠ 0 → -32768 ≤ q → q ≤ 32767 →
        n = t.y.toInt * s.x.toInt + t.d.toInt ∧ t.d.toInt.natAbs < s.x.toInt.natAbs ∧
        (0 < t.d.toInt → 0 < n) ∧ (t.d.toInt < 0 → n < 0) ∧
        Effect [.a, .b, .y] (.nz t.y (some false) (some false)) s t))) ∧
  ∀ s : State,
    (Completes .idiv s fun t =>
      (s.x ≠ 0 → s.d.toNat = t.x.toNat * s.x.toNat + t.d.toNat ∧ t.d.toNat < s.x.toNat ∧
        Effect [.a, .b, .x] ⟨none, none, some (decide (t.x = 0)), some false, some false⟩ s t) ∧
      (s.x = 0 → t.x = 0xFFFF ∧ Effect [.a, .b, .x, .free] ⟨none, none, some false, some false, some true⟩ s t)) ∧
    (Completes .idivs s fun t =>
      (s.x = 0 → t.ccr.getLsbD 0 = true ∧ SameCcrOutside 0x0F s.ccr t.ccr ∧ Keeps [.ccr, .free] s t) ∧
      (s.d.toInt = -32768 → s.x.toInt = -1 →
        t.ccr.getLsbD 1 = true ∧ t.ccr.getLsbD 0 = false ∧ SameCcrOutside 0x0F s.ccr t.ccr ∧
        Keeps [.a, .b, .x, .ccr, .free] s t) ∧
      (s.x ≠ 0 → ¬ (s.d.toInt = -32768 ∧ s.x.toInt = -1) →
        s.d.toInt = t.x.toInt * s.x.toInt + t.d.toInt ∧ t.d.toInt.natAbs < s.x.toInt.natAbs ∧
        (0 < t.d.toInt → 0 < s.d.toInt) ∧ (t.d.toInt < 0 → s.d.toInt < 0) ∧
        Effect [.a, .b, .x] (.nz t.x (some false) (some false)) s t)) ∧
    (Completes .fdiv s fun t =>
      (s.d.toNat < s.x.toNat →
        s.d.toNat * 65536 = t.x.toNat * s.x.toNat + t.d.toNat ∧ t.d.toNat < s.x.toNat ∧
        Effect [.a, .b, .x] ⟨none, none, some (decide (t.x = 0)), some false, some false⟩ s t) ∧
      (s.x.toNat ≤ s.d.toNat → t.x = 0xFFFF ∧
        Effect [.a, .b, .x, .free] ⟨none, none, some false, some true, some (decide (s.x = 0))⟩ s t))

/-- The eight MIN and MAX instructions (46_mul_div_minmax_table.md R660 to R668): the flags of register minus memory; the
unsigned maximum or minimum goes to the register, or to memory on every execution.  The write on every execution is
derived in R660.  Of what a store leaves, that ROM and unimplemented addresses ignore it is the model's choice (log 13),
the form of a device register log 47. -/
def Obligations.MinimumMaximum : Prop :=
  ∀ (i : Idx) (s : State), MemoryForm s →
    let ea := i.addr s s.pc
    let u := i.update s
    let m := s.readByte ea
    let w := s.readWord ea
    let flags (t : State) (r : Byte) := (differenceFlags s.a m r 0).Made s.ccr t.ccr
    let flagsW (t : State) (r : Word) := (differenceFlags s.d w r 0).Made s.ccr t.ccr
    (Completes (.maxa i) s fun t =>
      t.a.toNat = max s.a.toNat m.toNat ∧ flags t (s.a - m) ∧ Keeps [.a, .ccr] u t) ∧
    (Completes (.mina i) s fun t =>
      t.a.toNat = min s.a.toNat m.toNat ∧ flags t (s.a - m) ∧ Keeps [.a, .ccr] u t) ∧
    (Completes (.emaxd i) s fun t =>
      t.d.toNat = max s.d.toNat w.toNat ∧ flagsW t (s.d - w) ∧ Keeps [.a, .b, .ccr] u t) ∧
    (Completes (.emind i) s fun t =>
      t.d.toNat = min s.d.toNat w.toNat ∧ flagsW t (s.d - w) ∧ Keeps [.a, .b, .ccr] u t) ∧
    (Completes (.maxm i) s fun t =>
      StoresByte [.ccr] u t ea (BitVec.ofNat 8 (max s.a.toNat m.toNat)) ∧ flags t (s.a - m)) ∧
    (Completes (.minm i) s fun t =>
      StoresByte [.ccr] u t ea (BitVec.ofNat 8 (min s.a.toNat m.toNat)) ∧ flags t (s.a - m)) ∧
    (Completes (.emaxm i) s fun t =>
      StoresWord [.ccr] u t ea (BitVec.ofNat 16 (max s.d.toNat w.toNat)) ∧ flagsW t (s.d - w)) ∧
    (Completes (.eminm i) s fun t =>
      StoresWord [.ccr] u t ea (BitVec.ofNat 16 (min s.d.toNat w.toNat)) ∧ flagsW t (s.d - w))

/-- TBL and ETBL (46_mul_div_minmax_table.md R669 to R671, the rounding and C by 92 D22; log 22): the result lies between the
two entries and is Y1 + floor(B × (Y2 - Y1) / 256); C is bit 7 of the product; V stays. -/
def Obligations.TableInterpolation : Prop :=
  ∀ (i : Idx) (s : State), i.noExtension = true →
    let ea := i.addr s s.pc
    (Completes (.tbl i) s fun t =>
      let y1 : Int := (s.readByte ea).toNat
      let y2 : Int := (s.readByte (ea + 1)).toNat
      let p : Int := s.b.toNat * (y2 - y1)
      (t.a.toNat : Int) = y1 + p / 256 ∧ min y1 y2 ≤ t.a.toNat ∧ (t.a.toNat : Int) ≤ max y1 y2 ∧
      Effect [.a] (.nz t.a none (some (decide (128 ≤ p % 256)))) (i.update s) t) ∧
    (Completes (.etbl i) s fun t =>
      let y1 : Int := (s.readWord ea).toNat
      let y2 : Int := (s.readWord (ea + 2)).toNat
      let p : Int := s.b.toNat * (y2 - y1)
      (t.d.toNat : Int) = y1 + p / 256 ∧ min y1 y2 ≤ t.d.toNat ∧ (t.d.toNat : Int) ≤ max y1 y2 ∧
      Effect [.a, .b] (.nz t.d none (some (decide (128 ≤ p % 256)))) (i.update s) t)

/-! ## Branches, loops, jumps, subroutines -/

/-- The short and long branches, their second names among them (47_branch_loop_jump.md R702), over N, Z, V, C. -/
def Obligations.BranchesTestConditions : Prop :=
  Branches .bra .lbra (fun _ _ _ _ => true) ∧ Branches .brn .lbrn (fun _ _ _ _ => false) ∧
  Branches .bhi .lbhi (fun _ z _ c => !c && !z) ∧ Branches .bls .lbls (fun _ z _ c => c || z) ∧
  Branches .bcc .lbcc (fun _ _ _ c => !c) ∧ Branches .bhs .lbhs (fun _ _ _ c => !c) ∧
  Branches .bcs .lbcs (fun _ _ _ c => c) ∧ Branches .blo .lblo (fun _ _ _ c => c) ∧
  Branches .bne .lbne (fun _ z _ _ => !z) ∧ Branches .beq .lbeq (fun _ z _ _ => z) ∧
  Branches .bvc .lbvc (fun _ _ v _ => !v) ∧ Branches .bvs .lbvs (fun _ _ v _ => v) ∧
  Branches .bpl .lbpl (fun n _ _ _ => !n) ∧ Branches .bmi .lbmi (fun n _ _ _ => n) ∧
  Branches .bge .lbge (fun n _ v _ => n == v) ∧ Branches .blt .lblt (fun n _ v _ => n != v) ∧
  Branches .bgt .lbgt (fun n z v _ => !z && n == v) ∧ Branches .ble .lble (fun n z v _ => z || n != v)

/-- After CMPA with operand `m`, the relational branches go exactly when A stands in the relation to `m`, unsigned or signed
(47_branch_loop_jump.md R702, last column, with 42_add_sub_compare.md R352). -/
def Obligations.CompareThenBranch : Prop :=
  ∀ (src : Src8) (s t : State) (rel : Byte), exec (.cmpa src) s = .next t →
    let m := src.value s
    let goes (i : Instr) (relation : Prop) := Completes i t fun u =>
      (relation → u.pc = t.pc + rel.signExtend 16) ∧ (¬ relation → u.pc = t.pc)
    goes (.bhi rel) (m.toNat < s.a.toNat) ∧ goes (.bls rel) (s.a.toNat ≤ m.toNat) ∧
    goes (.bhs rel) (m.toNat ≤ s.a.toNat) ∧ goes (.blo rel) (s.a.toNat < m.toNat) ∧
    goes (.bne rel) (s.a ≠ m) ∧ goes (.beq rel) (s.a = m) ∧
    goes (.bge rel) (m.toInt ≤ s.a.toInt) ∧ goes (.blt rel) (s.a.toInt < m.toInt) ∧
    goes (.bgt rel) (m.toInt < s.a.toInt) ∧ goes (.ble rel) (s.a.toInt ≤ m.toInt)

/-- BRCLR and BRSET (47_branch_loop_jump.md R739, R740): taken exactly when every bit of the mask is clear, or set, in the
byte; the index register is updated either way; an indirect operand is refused (31_indexed_postbyte.md R160). -/
def Obligations.BranchesOnBits : Prop :=
  ∀ (ea : Ea) (mask rel : Byte) (s : State),
    let m := s.readByte (ea.addr s)
    (ea.isDirect = true →
      (Completes (.brclr ea mask rel) s fun t => Keeps [.pc, .stale] (ea.update s) t ∧
        ((∀ k < 8, mask.getLsbD k = true → m.getLsbD k = false) → t.pc = s.pc + rel.signExtend 16) ∧
        ((∃ k < 8, mask.getLsbD k = true ∧ m.getLsbD k = true) → t.pc = s.pc)) ∧
      (Completes (.brset ea mask rel) s fun t => Keeps [.pc, .stale] (ea.update s) t ∧
        ((∀ k < 8, mask.getLsbD k = true → m.getLsbD k = true) → t.pc = s.pc + rel.signExtend 16) ∧
        ((∃ k < 8, mask.getLsbD k = true ∧ m.getLsbD k = false) → t.pc = s.pc))) ∧
    (ea.isDirect = false →
      exec (.brclr ea mask rel) s = .refused .reservedForm ∧ exec (.brset ea mask rel) s = .refused .reservedForm)

/-- DBEQ, DBNE, IBEQ, IBNE, TBEQ, TBNE (47_branch_loop_jump.md R741 to R748). -/
def Obligations.LoopPrimitives : Prop :=
  Loops .dbeq (-1) true ∧ Loops .dbne (-1) false ∧ Loops .ibeq 1 true ∧ Loops .ibne 1 false ∧
  Loops .tbeq 0 true ∧ Loops .tbne 0 false

/-- JMP, JSR, BSR, RTS (47_branch_loop_jump.md R749 to R751, R754): the address is formed before the return address,
PCnext, is pushed.  That a stack in ROM or at unimplemented addresses ignores a push is the model's choice (log 13), the
form of a device register log 47. -/
def Obligations.JumpsAndSubroutines : Prop :=
  (∀ (target : Xea) (s : State), Completes (.jmp target) s fun t =>
    t.pc = target.addr s s.pc ∧ Keeps [.pc, .stale] (target.update s) t) ∧
  (∀ (target : Ea) (s : State), MemoryForm s → Completes (.jsr target) s fun t =>
    let u := target.update s
    t.pc = target.addr s ∧ t.sp = u.sp - 2 ∧ StoresWord [.pc, .stale] (u.setSp (u.sp - 2)) t (u.sp - 2) s.pc) ∧
  (∀ (rel : Byte) (s : State), MemoryForm s → Completes (.bsr rel) s fun t =>
    t.pc = s.pc + rel.signExtend 16 ∧ t.sp = s.sp - 2 ∧
    StoresWord [.pc, .stale] (s.setSp (s.sp - 2)) t (s.sp - 2) s.pc) ∧
  ∀ s : State, Completes .rts s fun t =>
    t.pc = s.readWord s.sp ∧ t.sp = s.sp + 2 ∧ Keeps [.pc, .stale, .sp] s t

/-- CALL and RTC (47_branch_loop_jump.md R752, R753): address and page from the operand or from the three bytes the
pointer names, PCnext and the old PPAGE pushed, then PPAGE and PC loaded; RTC pulls both.  That the address is formed
before the stacking is derived in R752.  That a stack in ROM or at unimplemented addresses ignores a push is the model's
choice (log 13), the form of a device register log 47. -/
def Obligations.CallsAndReturns : Prop :=
  (∀ (target : CallTarget) (s : State), MemoryForm s → target.wf = true →
    ∃ (u : State) (addr : Word) (page : Byte),
      (match target with
        | .ext w pg => u = s ∧ addr = w ∧ page = pg
        | .idx i pg => u = i.update s ∧ addr = i.addr s s.pc ∧ page = pg
        | .ind i => u = s ∧ addr = s.readWord (i.pointer s s.pc) ∧ page = s.readByte (i.pointer s s.pc + 2)) ∧
      Completes (.call target) s fun t => ∃ m n : State,
        t.pc = addr ∧ t.ppage = page ∧ t.sp = u.sp - 3 ∧
        StoresWord [] (u.setSp (u.sp - 2)) m (u.sp - 2) s.pc ∧
        StoresByte [] (m.setSp (u.sp - 3)) n (u.sp - 3) u.ppage ∧ Keeps [.pc, .ppage, .stale] n t) ∧
  ∀ s : State, Completes .rtc s fun t =>
    t.ppage = s.readByte s.sp ∧ t.sp = s.sp + 3 ∧
    t.pc = ((s.setSp (s.sp + 1)).setPpage (s.readByte s.sp)).readWord (s.sp + 1) ∧
    Keeps [.ppage, .sp, .pc, .stale] s t

/-- A subroutine that returns at once: RTS after JSR and RTC after CALL, on a stack in RAM outside the page window, restore
PC, SP, PPAGE and every other register (47_branch_loop_jump.md R753: "Undoes rule R752 exactly"). -/
def Obligations.SubroutineReturns : Prop :=
  ∀ (s t : State), MemoryForm s → StackIsRam s 3 →
    (∀ k < 3, s.device.expanded = true → inWindow (s.sp - BitVec.ofNat 16 (k + 1)) = false) →
    (∀ addr : Word, exec (.jsr (.ext addr)) s = .next t →
      Completes .rts t fun u => u.pc = s.pc ∧ SameExcept [.stale] s u) ∧
    ∀ (addr : Word) (page : Byte), exec (.call (.ext addr page)) s = .next t →
      Completes .rtc t fun u => u.pc = s.pc ∧ u.ppage = s.ppage ∧ SameExcept [.stale] s u

/-! ## Stack, condition codes, system -/

/-- The pushes (48_stack_ccr_system.md R760 to R767) and the pulls but those of the condition codes (R768, R769, R772 to
R774).  That a stack in ROM or at unimplemented addresses ignores a push is the model's choice (log 13), the form of a
device register log 47. -/
def Obligations.PushesAndPulls : Prop :=
  PushesByte .psha State.a ∧ PushesByte .pshb State.b ∧ PushesByte .pshc State.ccr ∧
  PushesWord .pshcw (fun s => 0#5 ++ s.ipl ++ s.ccr) ∧ PushesWord .pshd (fun s => s.a ++ s.b) ∧
  PushesWord .pshx State.x ∧ PushesWord .pshy State.y ∧
  ∀ s : State,
    (Completes .pula s fun t => t.a = s.readByte s.sp ∧ t.sp = s.sp + 1 ∧ Keeps [.a, .sp] s t) ∧
    (Completes .pulb s fun t => t.b = s.readByte s.sp ∧ t.sp = s.sp + 1 ∧ Keeps [.b, .sp] s t) ∧
    (Completes .puld s fun t => t.a = s.readByte s.sp ∧ t.b = s.readByte (s.sp + 1) ∧ t.sp = s.sp + 2 ∧
      Keeps [.a, .b, .sp] s t) ∧
    (Completes .pulx s fun t => t.x = s.readWord s.sp ∧ t.sp = s.sp + 2 ∧ Keeps [.x, .sp] s t) ∧
    (Completes .puly s fun t => t.y = s.readWord s.sp ∧ t.sp = s.sp + 2 ∧ Keeps [.y, .sp] s t)

/-- PULC, PULCW, TAP, ANDCC, ORCC and the named forms CLC to SEV (48_stack_ccr_system.md R770, R771, R775 to R782,
41_transfer_exchange.md R312): the X rule and the I delay (the delay after PULC and PULCW by 92 D26; log 29). -/
def Obligations.ConditionCodeWrites : Prop :=
  ∀ s : State,
    (Completes .pulc s fun t => t.sp = s.sp + 1 ∧ WritesCcr [.sp] (s.readByte s.sp) s t) ∧
    (Completes .pulcw s fun t => t.sp = s.sp + 2 ∧ t.ipl = (s.readByte s.sp).extractLsb' 0 3 ∧
      WritesCcr [.sp, .ipl] (s.readByte (s.sp + 1)) s t) ∧
    (Completes .tap s fun t => WritesCcr [] s.a s t) ∧
    (∀ k : Byte, Completes (.andcc k) s fun t => WritesCcr [] (s.ccr &&& k) s t) ∧
    (∀ k : Byte, Completes (.orcc k) s fun t => WritesCcr [] (s.ccr ||| k) s t ∧
      t.ccr.getLsbD 6 = s.ccr.getLsbD 6) ∧
    (Completes .clc s fun t => FlagChange.Made ⟨none, none, none, none, some false⟩ s.ccr t.ccr ∧
      Keeps [.ccr, .iDelay] s t) ∧
    (Completes .clv s fun t => FlagChange.Made ⟨none, none, none, some false, none⟩ s.ccr t.ccr ∧
      Keeps [.ccr, .iDelay] s t) ∧
    (Completes .sec s fun t => FlagChange.Made ⟨none, none, none, none, some true⟩ s.ccr t.ccr ∧
      Keeps [.ccr, .iDelay] s t) ∧
    (Completes .sev s fun t => FlagChange.Made ⟨none, none, none, some true, none⟩ s.ccr t.ccr ∧
      Keeps [.ccr, .iDelay] s t) ∧
    (Completes .cli s fun t => t.ccr.getLsbD 4 = false ∧ t.iDelay = s.ccr.getLsbD 4 ∧
      SameCcrOutside 0x10 s.ccr t.ccr ∧ Keeps [.ccr, .iDelay] s t) ∧
    (Completes .sei s fun t => t.ccr.getLsbD 4 = true ∧ SameCcrOutside 0x10 s.ccr t.ccr ∧ Keeps [.ccr, .iDelay] s t)

/-- NOP does nothing else than advance PC (48_stack_ccr_system.md R783).  BGND (R784, 92 D17; log 32): with BDM disabled
nothing else either, with BDM enabled the run state is background, which only the debug module's resume ends. -/
def Obligations.NullAndBackground : Prop :=
  (∀ s : State, exec .nop s = .next s) ∧
  (∀ s : State, s.device.bdmEnabled = false → Completes .bgnd s (Keeps [] s)) ∧
  (∀ s : State, s.device.bdmEnabled = true → Completes .bgnd s fun t => t.run = .background ∧ Keeps [.run] s t) ∧
  ∀ s : State, s.run = .background → (nextInput s).reset = none → ∃ t, step s = .next t ∧
    t.run = (if (nextInput s).debugGo then .running else .background) ∧ t.pc = s.pc ∧
    Keeps [.run, .stale, .inputs, .free] s t

/-- SWI and TRAP (48_stack_ccr_system.md R785, R786, 60_exceptions.md R811 to R813) complete on any stack; on a stack in RAM
the ten-byte frame, the vector read before the pushes, I set, X and IPL as they were. -/
def Obligations.SoftwareInterruptAndTrap : Prop :=
  ∀ s : State,
    (∃ t, exec .swi s = .next t) ∧ (∀ tn : Byte, tn ∈ trapCodes → ∃ t, exec (.trap tn) s = .next t) ∧
    (MemoryForm s → StackIsRam s 10 →
      (Completes .swi s fun t => Entered s t 0xF6 s.pc false s.ipl) ∧
      ∀ tn : Byte, tn ∈ trapCodes → Completes (.trap tn) s fun t => Entered s t 0xF8 s.pc false s.ipl)

/-- RTI (48_stack_ccr_system.md R787): every register from its place in the ten bytes, X under its write rule, SP + 10, no I
delay begun (60_exceptions.md R822). -/
def Obligations.ReturnFromInterrupt : Prop :=
  ∀ s : State, Completes .rti s fun t =>
    t.ipl = (s.readByte s.sp).extractLsb' 0 3 ∧ CcrWritten s.ccr (s.readByte (s.sp + 1)) t.ccr ∧
    t.b = s.readByte (s.sp + 2) ∧ t.a = s.readByte (s.sp + 3) ∧ t.x = s.readWord (s.sp + 4) ∧
    t.y = s.readWord (s.sp + 6) ∧ t.pc = s.readWord (s.sp + 8) ∧ t.sp = s.sp + 10 ∧
    Keeps [.ipl, .ccr, .a, .b, .x, .y, .pc, .sp, .stale] s t

/-- A handler of one instruction: RTI after SWI, on a stack in RAM, restores every register, the condition codes and IPL
among them, and goes on behind the SWI (60_exceptions.md R811, R831). -/
def Obligations.InterruptThenReturnRestores : Prop :=
  ∀ (s t : State), MemoryForm s → StackIsRam s 10 → exec .swi s = .next t →
    Completes .rti t fun u => u.pc = s.pc ∧ u.ccr = s.ccr ∧ u.ipl = s.ipl ∧ SameExcept [.run, .iDelay, .stale] s u

/-- STOP and WAI (48_stack_ccr_system.md R788, R789): STOP with S = 1 is a NOP; otherwise the frame is pushed, masks
unchanged, and the machine stops or waits. -/
def Obligations.StopAndWait : Prop :=
  ∀ s : State,
    (s.ccr.getLsbD 7 = true → exec .stop s = .next s) ∧
    (s.ccr.getLsbD 7 = false → Completes .stop s fun t => t.run = .stopped ∧ t.sp = s.sp - 10 ∧ t.ccr = s.ccr) ∧
    (Completes .wai s fun t => t.run = .waiting ∧ t.sp = s.sp - 10 ∧ t.ccr = s.ccr) ∧
    (MemoryForm s → StackIsRam s 10 →
      (s.ccr.getLsbD 7 = false → Completes .stop s fun t =>
        FramePushed s t s.pc ∧ SameExcept [.sp, .run, .stale] s t) ∧
      (Completes .wai s fun t => FramePushed s t s.pc ∧ SameExcept [.sp, .run, .stale] s t))

/-! ## Fuzzy logic -/

/-- MEM (49_fuzzy.md R1001, R1002): the grade from the four bytes at X to the byte at Y, X + 4, Y + 1, A unchanged, H, N,
Z, V, C unspecified.  Of what a store leaves, that ROM and unimplemented addresses ignore it is the model's choice (log
13), the form of a device register log 47. -/
def Obligations.MembershipGrade : Prop :=
  ∀ s : State, MemoryForm s → Completes .mem s fun t =>
    let a := s.a.toNat
    let p1 := (s.readByte s.x).toNat
    let p2 := (s.readByte (s.x + 1)).toNat
    let s1 := (s.readByte (s.x + 2)).toNat
    let s2 := (s.readByte (s.x + 3)).toNat
    let grade :=
      if a < p1 ∨ p2 < a then 0
      else if s1 ≠ 0 ∧ (a - p1) * s1 ≤ 255 then (a - p1) * s1
      else if s2 = 0 ∨ 255 < (p2 - a) * s2 then 255
      else (p2 - a) * s2
    t.x = s.x + 4 ∧ t.y = s.y + 1 ∧ SameCcrOutside 0x2F s.ccr t.ccr ∧
    StoresByte [.x, .y, .ccr, .free] s t s.y (BitVec.ofNat 8 grade)

/-- REV (49_fuzzy.md R1003, R1000; log 34), one element: the terminator ends it, the separator toggles V and starts a new
rule with A = $FF, an antecedent takes the minimum, a consequent raises the output; H, N, Z, C unspecified.  The next step
goes on with the next element, PC at the prebyte.  Of what a store leaves, that ROM and unimplemented addresses ignore it
is the model's choice (log 13), the form of a device register log 47. -/
def Obligations.RuleEvaluation : Prop :=
  (∀ s : State, MemoryForm s → Completes .rev s fun t =>
    let r := s.readByte s.x
    let out := s.y + r.zeroExtend 16
    let v := s.ccr.getLsbD 1
    t.x = s.x + 1 ∧ t.run = (if r = 0xFF then .running else .inRev) ∧ t.pc = (if r = 0xFF then s.pc else s.pc - 2) ∧
    t.ccr.getLsbD 1 = (if r = 0xFE then !v else v) ∧ SameCcrOutside 0x2F s.ccr t.ccr ∧
    (r = 0xFF → t.a = s.a) ∧ (r = 0xFE → t.a = if v then 0xFF else s.a) ∧
    (r ≠ 0xFF → r ≠ 0xFE → v = false → t.a.toNat = min s.a.toNat (s.readByte out).toNat) ∧
    (r ≠ 0xFF → r ≠ 0xFE → v = true → t.a = s.a) ∧
    (if r ≠ 0xFF ∧ r ≠ 0xFE ∧ v = true ∧ (s.readByte out).toNat < s.a.toNat
      then StoresByte [.x, .ccr, .free, .run, .pc] s t out s.a
      else Keeps [.a, .x, .ccr, .free, .run, .pc] s t)) ∧
  ∀ s : State, s.run = .inRev → NothingRecognised s false → Permitted s →
    step s = exec .rev { s.nextSample with pc := s.pc + 2 }

/-- REVW (49_fuzzy.md R1004, R1000; log 34), one element: as REV with words; with C = 1 the separator after the
antecedents weighs A by (weight + 1) / 256 and steps Y; C stays; H, N, Z unspecified.  Of what a store leaves, that ROM
and unimplemented addresses ignore it is the model's choice (log 13), the form of a device register log 47. -/
def Obligations.WeightedRuleEvaluation : Prop :=
  (∀ s : State, MemoryForm s → Completes .revw s fun t =>
    let r := s.readWord s.x
    let v := s.ccr.getLsbD 1
    let c := s.ccr.getLsbD 0
    let separator := r = 0xFFFE
    let last := r = 0xFFFF
    t.x = s.x + 2 ∧ t.run = (if last then .running else .inRevw) ∧ t.pc = (if last then s.pc else s.pc - 2) ∧
    t.ccr.getLsbD 1 = (if separator then !v else v) ∧ SameCcrOutside 0x2E s.ccr t.ccr ∧
    t.y = (if separator ∧ v = false ∧ c = true then s.y + 1 else s.y) ∧
    (last → t.a = s.a) ∧ (separator → v = true → t.a = 0xFF) ∧ (separator → v = false → c = false → t.a = s.a) ∧
    (separator → v = false → c = true → t.a.toNat = s.a.toNat * ((s.readByte s.y).toNat + 1) / 256) ∧
    (¬ last → ¬ separator → v = false → t.a.toNat = min s.a.toNat (s.readByte r).toNat) ∧
    (¬ last → ¬ separator → v = true → t.a = s.a) ∧
    (if ¬ last ∧ ¬ separator ∧ v = true ∧ (s.readByte r).toNat < s.a.toNat
      then StoresByte [.x, .ccr, .free, .run, .pc] s t r s.a
      else Keeps [.a, .x, .y, .ccr, .free, .run, .pc] s t)) ∧
  ∀ s : State, s.run = .inRevw → NothingRecognised s false → Permitted s →
    step s = exec .revw { s.nextSample with pc := s.pc + 2 }

/-- WAV run to its end (49_fuzzy.md R1007, a count of 0 meaning 256 passes by 92 D15; logs 34, 35): from the state that
`exec .wav` answers, the machine left alone reaches after as many steps as there are passes a state with Y:D the sum of
the products, X the sum of the weights, Z set, PC behind the WAV; for a device all of whose reads are specified (logs 13,
47) and whose answer to these reads is no reset (log 48). -/
def Obligations.WeightedAverageSums : Prop :=
  ∀ (s t : State) (n : Nat), s.inputs = [] →
    (∀ (k f : Nat), ({ s with free := f } : State).readKey k = s.readKey k) →
    (n = if s.b = 0 then 256 else s.b.toNat) →
    (∀ k < n, ∀ c ∈ s.reads8 (s.y + BitVec.ofNat 16 k) ++ s.reads8 (s.x + BitVec.ofNat 16 k),
      s.device.forbids c = false) →
    exec .wav s = .next t →
    ∃ u, Sys2Proof.Safety.run n t = .next u ∧ u.run = .running ∧ u.pc = s.pc ∧
      u.y.toNat * 65536 + u.d.toNat = ((List.range n).map fun k =>
        (s.readByte (s.y + BitVec.ofNat 16 k)).toNat * (s.readByte (s.x + BitVec.ofNat 16 k)).toNat).sum ∧
      u.x.toNat = ((List.range n).map fun k => (s.readByte (s.y + BitVec.ofNat 16 k)).toNat).sum ∧
      u.ccr.getLsbD 2 = true ∧ SameCcrOutside 0x2F s.ccr u.ccr ∧ Keeps [.a, .b, .x, .y, .ccr, .run, .pc, .free] s u

/-- One element of WAV and its resumption (49_fuzzy.md R1006, R1008): WAV clears the sums and is under way; `wavr` pulls the
sums, adds the pair that was in progress, and ends or goes on; a suspension pushes the sums below the stack in RAM, the
pass begun without its terms. -/
def Obligations.WeightedAverageSuspension : Prop :=
  (∀ s : State, Completes .wav s fun t =>
    t.run = .inWav ∧ t.pc = s.pc - 1 ∧ t.tmp1 = 0 ∧ t.tmp2 = 0 ∧ t.tmp3 = 0 ∧ Keeps [.run, .pc] s t) ∧
  (∀ s : State, Completes .wavr s fun t =>
    let f := s.readByte (s.y - 1)
    let p := s.readByte (s.x - 1)
    let sop := (s.readWord s.sp ++ s.readWord (s.sp + 2) : BitVec 32) + BitVec.ofNat 32 (p.toNat * f.toNat)
    let sow := s.readWord (s.sp + 4) + BitVec.ofNat 16 f.toNat
    t.sp = s.sp + 6 ∧
    (s.b = 0 → t.y ++ t.d = sop ∧ t.x = sow ∧ t.run = .running ∧ t.pc = s.pc ∧ t.ccr.getLsbD 2 = true ∧
      SameCcrOutside 0x2F s.ccr t.ccr ∧ Keeps [.a, .b, .x, .y, .sp, .ccr, .run, .pc, .free] s t) ∧
    (s.b ≠ 0 → t.tmp1 ++ t.tmp2 = sop ∧ t.tmp3 = sow ∧ t.run = .inWav ∧ t.pc = s.pc - 1 ∧
      Keeps [.sp, .run, .pc] s t)) ∧
  ∀ s : State, MemoryForm s → StackIsRam s 6 →
    (wavSuspend s).b = s.b - 1 ∧ (wavSuspend s).x = s.x + 1 ∧ (wavSuspend s).y = s.y + 1 ∧
    (wavSuspend s).sp = s.sp - 6 ∧ (wavSuspend s).readWord (s.sp - 2) = s.tmp3 ∧
    (wavSuspend s).readWord (s.sp - 4) = s.tmp2 ∧ (wavSuspend s).readWord (s.sp - 6) = s.tmp1

/-! ## Interrupts and resets -/

/-- The interrupt that the masks let through is taken at an instruction boundary, with RTN = PC; between two elements of REV
or REVW, with RTN at their prebyte; between two passes of WAV, with RTN at the `3C` byte and the six bytes of the sums above
the frame (60_exceptions.md R804, R810 to R813, R822, R830, 49_fuzzy.md R1000, R1008).  XIRQ with X = 0 goes before a
maskable request with I = 0.  That a request needs a level above IPL, that IPL takes its level, and what IPL becomes on
XIRQ are the spec's own decision D19 (log 30, PRESUMED); the run states between elements are log 34. -/
def Obligations.InterruptsAreTaken : Prop :=
  ∀ (s : State) (offset : Byte) (setsX : Bool) (level : BitVec 3),
    MemoryForm s → Permitted s → (nextInput s).reset = none →
    (s.run = .running → StackIsRam s 10 → Qualified s s.iDelay offset setsX level →
      ∃ t, step s = .next t ∧ Entered s.nextSample t offset s.pc setsX level) ∧
    (s.run = .inRev ∨ s.run = .inRevw → StackIsRam s 10 → Qualified s false offset setsX level →
      ∃ t, step s = .next t ∧ Entered s.nextSample t offset s.pc setsX level) ∧
    (s.run = .inWav → StackIsRam s 16 → Qualified s false offset setsX level →
      ∃ t, step s = .next t ∧ Entered (wavSuspend s.nextSample) t offset s.pc setsX level ∧
        t.sp = s.sp - 16 ∧ t.readWord (s.sp - 2) = s.tmp3 ∧ t.readWord (s.sp - 4) = s.tmp2 ∧
        t.readWord (s.sp - 6) = s.tmp1)

/-- Waiting and stopped (48_stack_ccr_system.md R790): an interrupt that the masks let through enters its handler without
pushing again; XIRQ with X = 1 goes on behind the WAI or STOP with SP raised over the frame; nothing else ends the wait, a
forced SWI among it.  That a masked maskable request ends neither WAI nor STOP is the spec's own decision D18 (log 31);
that the handler goes first where XIRQ with X = 1 comes together with a qualified maskable request is the model's choice
(log 53), so is that a forced SWI waits for an instruction boundary (log 33). -/
def Obligations.LeavingWaitAndStop : Prop :=
  ∀ s : State, s.run = .waiting ∨ s.run = .stopped → (nextInput s).reset = none →
    (∀ (offset : Byte) (setsX : Bool) (level : BitVec 3), Permitted s → Qualified s false offset setsX level →
      ∃ t, step s = .next t ∧
        t.run = .running ∧ t.pc = s.nextSample.readWord (s.vb ++ offset) ∧ t.sp = s.sp ∧ MasksSet setsX s.ccr t.ccr ∧
        t.ipl = level ∧ Keeps [.run, .pc, .ccr, .ipl, .iDelay, .stale] s.nextSample t) ∧
    ((nextInput s).xirq = true → NothingQualified s false → ∃ t, step s = .next t ∧
      t.run = .running ∧ t.pc = s.pc ∧ t.sp = s.sp + 10 ∧ Keeps [.run, .sp] s.nextSample t) ∧
    ((nextInput s).xirq = false → NothingQualified s false → step s = .next s.nextSample)

/-- A reset in any run state (70_reset_and_hazards.md R900 to R903, 60_exceptions.md R850, R851).  It is held: nothing runs,
nothing is stacked, memory stays as far as the device keeps it.  It ends: PC from the fixed vector of its kind, S, X, I set,
running, the modules' registers at their parameters.  An access that the device declares illegal begins a system reset;
nothing but this and the environment begins one.  IPL 0 and the registers at their parameters are the spec's own decisions
D21, D9, D20 (logs 4, 7); the model's choices are that a reset takes effect at a boundary (log 17), which accesses count
(log 48), and the device's list of what RAM keeps (log 49). -/
def Obligations.ResetSequence : Prop :=
  (∀ (s : State) (k : ResetKind), (nextInput s).reset = some k → ∃ t, step s = .next t ∧
    t.run = .inReset k ∧ SameExcept [.run] s.nextSample t ∧ MemoryReset k s t) ∧
  (∀ (s : State) (k : ResetKind), s.run = .inReset k → (nextInput s).reset = none → Permitted s → ∃ t, step s = .next t ∧
    t.pc = s.nextSample.readWord
      (match k with | .powerOn | .system => 0xFFFE | .clockMonitor => 0xFFFC | .cop => 0xFFFA) ∧
    t.ccr.getLsbD 7 = true ∧ t.ccr.getLsbD 6 = true ∧ t.ccr.getLsbD 4 = true ∧ t.ipl = 0 ∧ t.run = .running ∧
    t.direct = s.device.directReset ∧ t.vb = s.device.vbReset ∧ t.ppage = s.device.ppageReset ∧
    t.gpage = s.device.gpageReset ∧ SameMemory [] s t ∧ t.device = s.device) ∧
  (∀ s : State, ¬ Permitted s → ∃ t, step s = .next t ∧ t.run = .inReset .system) ∧
  ∀ (s t : State) (k : ResetKind), step s = .next t → t.run = .inReset k →
    (nextInput s).reset = some k ∨ (k = .system ∧ ¬ Permitted s)
end

