-- ==== Sys2Proof/Laws/Flags.lean ====
section
/-! SUPPORT. The condition codes bit by bit: what putting a flag does, and what each flag computation of the machine makes of
H, N, Z, V and C. -/

namespace Sys2Proof.Machine

open Sys2Proof.Safety

/-- Putting a flag changes that bit alone. -/
theorem putFlag_getLsbD (i j : Nat) (v : Bool) (ccr : Byte) (hi : i < 8) :
    (putFlag i v ccr).getLsbD j = if j = i then v else ccr.getLsbD j := by
  by_cases hj : j < 8
  · simp only [putFlag, BitVec.getLsbD_or, BitVec.getLsbD_and, BitVec.getLsbD_not, BitVec.getLsbD_shiftLeft, hj]
    by_cases h : j = i
    · subst h; cases v <;> simp [hj]
    · have h1 : (1#8).getLsbD (j - i) = true ↔ j = i ∨ j < i := by
        simp [BitVec.getLsbD_one]; omega
      cases v
      · by_cases h2 : j < i <;> simp_all
      · by_cases h2 : j < i <;> simp_all
  · have h1 : ∀ x : Byte, x.getLsbD j = false := fun x => BitVec.getLsbD_of_ge x j (by omega)
    rw [h1, h1]
    have : ¬ j = i := by omega
    simp [this]

theorem msb_iff_neg {w : Nat} (r : BitVec w) : r.msb = decide (r.toInt < 0) := by
  rw [BitVec.msb_eq_toInt]

theorem eq_zero_iff {w : Nat} (r : BitVec w) : (r == 0#w) = decide (r.toNat = 0) := by
  rw [Bool.eq_iff_iff]
  simp [BitVec.toNat_eq]

theorem made_keep (ccr : Byte) : FlagChange.keep.Made ccr ccr := by
  simp [FlagChange.Made, FlagChange.keep]

/-- N, Z, V, C at once: the other condition codes stay. -/
theorem made_flagsNZVC {w : Nat} (r : BitVec w) (v c : Bool) (ccr : Byte) :
    (FlagChange.nz r (some v) (some c)).Made ccr (flagsNZVC r v c ccr) := by
  simp [-BitVec.getLsbD_eq_getElem, FlagChange.Made, FlagChange.nz, flagsNZVC, flagsNZV, flagsNZ, putFlag_getLsbD, msb_iff_neg, eq_zero_iff]

/-- N, Z, V: C and the other condition codes stay. -/
theorem made_flagsNZV {w : Nat} (r : BitVec w) (v : Bool) (ccr : Byte) :
    (FlagChange.nz r (some v) none).Made ccr (flagsNZV r v ccr) := by
  simp [-BitVec.getLsbD_eq_getElem, FlagChange.Made, FlagChange.nz, flagsNZV, flagsNZ, putFlag_getLsbD, msb_iff_neg, eq_zero_iff]

/-- Loads, stores and logic: N and Z from the data, V cleared, C and the others stay. -/
theorem made_logicFlags {w : Nat} (r : BitVec w) (ccr : Byte) :
    (FlagChange.nz r (some false) none).Made ccr (logicFlags r ccr) := made_flagsNZV r false ccr

/-- A flag change and then a putting of Z. -/
theorem made_putZ (fc : FlagChange) (old new : Byte) (z : Bool) (h : fc.Made old new) :
    FlagChange.Made { fc with z := some z } old (putFlag 2 z new) := by
  simp only [FlagChange.Made] at h ⊢
  simp [-BitVec.getLsbD_eq_getElem, putFlag_getLsbD, h]

/-- A flag change and then a putting of H. -/
theorem made_putH (fc : FlagChange) (old new : Byte) (b : Bool) (h : fc.Made old new) :
    FlagChange.Made { fc with h := some b } old (putFlag 5 b new) := by
  simp only [FlagChange.Made] at h ⊢
  simp [-BitVec.getLsbD_eq_getElem, putFlag_getLsbD, h]

/-- A flag change and then a putting of C. -/
theorem made_putC (fc : FlagChange) (old new : Byte) (b : Bool) (h : fc.Made old new) :
    FlagChange.Made { fc with c := some b } old (putFlag 0 b new) := by
  simp only [FlagChange.Made] at h ⊢
  simp [-BitVec.getLsbD_eq_getElem, putFlag_getLsbD, h]

end Sys2Proof.Machine
end

