-- ==== Sys2Proof/Laws/Arithmetic.lean ====
section
/-! SUPPORT. What the arithmetic of Flags.lean computes, as numbers: sums, differences, their overflow, shifts, and the flag
changes of additions, subtractions and shifts in the terms of Safety.lean. -/

namespace Sys2Proof.Machine

open Sys2Proof.Safety

theorem carryIn_toNat {w : Nat} (hw : 0 < w) (c : Bool) : (carryIn c : BitVec w).toNat = c.toNat := by
  cases c <;> simp [carryIn]; omega

/-- The sum modulo 2^w. -/
theorem addResult_toNat {w : Nat} (hw : 0 < w) (x m : BitVec w) (c : Bool) :
    (addResult x m c).toNat = (x.toNat + m.toNat + c.toNat) % 2 ^ w := by
  simp [addResult, BitVec.toNat_add, carryIn_toNat hw]

/-- The difference modulo 2^8. -/
theorem subResult_toNat8 (x m : Byte) (c : Bool) :
    ((subResult x m c).toNat : Int) = ((x.toNat : Int) - m.toNat - c.toNat) % 256 := by
  have hx := x.isLt
  have hm := m.isLt
  have hc : c.toNat ≤ 1 := by cases c <;> simp
  simp only [subResult, BitVec.toNat_sub, carryIn_toNat (show 0 < 8 by omega)]
  omega

/-- The difference modulo 2^16. -/
theorem subResult_toNat16 (x m : Word) (c : Bool) :
    ((subResult x m c).toNat : Int) = ((x.toNat : Int) - m.toNat - c.toNat) % 65536 := by
  have hx := x.isLt
  have hm := m.isLt
  have hc : c.toNat ≤ 1 := by cases c <;> simp
  simp only [subResult, BitVec.toNat_sub, carryIn_toNat (show 0 < 16 by omega)]
  omega

/-- A byte's sign bit, its number and its signed number. -/
theorem sign8 (x : Byte) : (x.msb = true ∧ 128 ≤ x.toNat ∧ x.toNat < 256 ∧ x.toInt = x.toNat - 256) ∨
    (x.msb = false ∧ x.toNat < 128 ∧ x.toInt = x.toNat) := by
  have h := x.isLt
  rw [BitVec.msb_eq_decide, BitVec.toInt_eq_toNat_cond]
  by_cases hx : 2 ^ (8 - 1) ≤ x.toNat
  · left; refine ⟨decide_eq_true hx, by omega, h, ?_⟩; rw [if_neg (by omega)]; rfl
  · right; refine ⟨decide_eq_false hx, by omega, ?_⟩; rw [if_pos (by omega)]

/-- A word's sign bit, its number and its signed number. -/
theorem sign16 (x : Word) : (x.msb = true ∧ 32768 ≤ x.toNat ∧ x.toNat < 65536 ∧ x.toInt = x.toNat - 65536) ∨
    (x.msb = false ∧ x.toNat < 32768 ∧ x.toInt = x.toNat) := by
  have h := x.isLt
  rw [BitVec.msb_eq_decide, BitVec.toInt_eq_toNat_cond]
  by_cases hx : 2 ^ (16 - 1) ≤ x.toNat
  · left; refine ⟨decide_eq_true hx, by omega, h, ?_⟩; rw [if_neg (by omega)]; rfl
  · right; refine ⟨decide_eq_false hx, by omega, ?_⟩; rw [if_pos (by omega)]

/-- The overflow of a byte addition: the signed sum is out of range. -/
theorem addOverflow8 (x m : Byte) (c : Bool) : addOverflow x m (addResult x m c) =
    decide (x.toInt + m.toInt + c.toNat < -(2 ^ (8 - 1) : Nat) ∨ (2 ^ (8 - 1) : Nat) ≤ x.toInt + m.toInt + c.toNat) := by
  have hr := addResult_toNat (show 0 < 8 by omega) x m c
  have hc : c.toNat ≤ 1 := by cases c <;> simp
  have hR := sign8 (addResult x m c)
  symm
  rcases sign8 x with ⟨a, b⟩ | ⟨a, b⟩ <;> rcases sign8 m with ⟨d, e⟩ | ⟨d, e⟩ <;> rcases hR with ⟨f, g⟩ | ⟨f, g⟩ <;>
    simp only [addOverflow, a, d, f, Bool.and_true, Bool.and_false, Bool.not_true,
      Bool.not_false, Bool.or_false, Bool.false_or, decide_eq_true_eq, decide_eq_false_iff_not] <;> omega

/-- The overflow of a word addition. -/
theorem addOverflow16 (x m : Word) (c : Bool) : addOverflow x m (addResult x m c) =
    decide (x.toInt + m.toInt + c.toNat < -(2 ^ (16 - 1) : Nat) ∨
      (2 ^ (16 - 1) : Nat) ≤ x.toInt + m.toInt + c.toNat) := by
  have hr := addResult_toNat (show 0 < 16 by omega) x m c
  have hc : c.toNat ≤ 1 := by cases c <;> simp
  have hR := sign16 (addResult x m c)
  symm
  rcases sign16 x with ⟨a, b⟩ | ⟨a, b⟩ <;> rcases sign16 m with ⟨d, e⟩ | ⟨d, e⟩ <;> rcases hR with ⟨f, g⟩ | ⟨f, g⟩ <;>
    simp only [addOverflow, a, d, f, Bool.and_true, Bool.and_false, Bool.not_true,
      Bool.not_false, Bool.or_false, Bool.false_or, decide_eq_true_eq, decide_eq_false_iff_not] <;> omega

/-- The overflow of a byte subtraction: the signed difference is out of range. -/
theorem subOverflow8 (x m : Byte) (c : Bool) : subOverflow x m (subResult x m c) =
    decide (x.toInt - m.toInt - c.toNat < -(2 ^ (8 - 1) : Nat) ∨ (2 ^ (8 - 1) : Nat) ≤ x.toInt - m.toInt - c.toNat) := by
  have hr := subResult_toNat8 x m c
  have hc : c.toNat ≤ 1 := by cases c <;> simp
  have hR := sign8 (subResult x m c)
  symm
  rcases sign8 x with ⟨a, b⟩ | ⟨a, b⟩ <;> rcases sign8 m with ⟨d, e⟩ | ⟨d, e⟩ <;> rcases hR with ⟨f, g⟩ | ⟨f, g⟩ <;>
    simp only [subOverflow, a, d, f, Bool.and_true, Bool.and_false, Bool.not_true,
      Bool.not_false, Bool.or_false, Bool.false_or, decide_eq_true_eq, decide_eq_false_iff_not] <;> omega

/-- The overflow of a word subtraction. -/
theorem subOverflow16 (x m : Word) (c : Bool) : subOverflow x m (subResult x m c) =
    decide (x.toInt - m.toInt - c.toNat < -(2 ^ (16 - 1) : Nat) ∨
      (2 ^ (16 - 1) : Nat) ≤ x.toInt - m.toInt - c.toNat) := by
  have hr := subResult_toNat16 x m c
  have hc : c.toNat ≤ 1 := by cases c <;> simp
  have hR := sign16 (subResult x m c)
  symm
  rcases sign16 x with ⟨a, b⟩ | ⟨a, b⟩ <;> rcases sign16 m with ⟨d, e⟩ | ⟨d, e⟩ <;> rcases hR with ⟨f, g⟩ | ⟨f, g⟩ <;>
    simp only [subOverflow, a, d, f, Bool.and_true, Bool.and_false, Bool.not_true,
      Bool.not_false, Bool.or_false, Bool.false_or, decide_eq_true_eq, decide_eq_false_iff_not] <;> omega

/-- What `add8Flags` makes of the condition codes. -/
theorem made_add8Flags (x m : Byte) (c : Bool) (ccr : Byte) :
    FlagChange.Made { sumFlags x m (addResult x m c) c.toNat with
      h := some (decide (15 < x.toNat % 16 + m.toNat % 16 + c.toNat)) } ccr (add8Flags x m c ccr) := by
  have h := made_flagsNZVC (addResult x m c) (addOverflow x m (addResult x m c)) (addCarry x m c) ccr
  unfold sumFlags
  rw [← addOverflow8]
  exact made_putH _ _ _ _ h

/-- What `add16Flags` makes of the condition codes. -/
theorem made_add16Flags (x m : Word) (c : Bool) (ccr : Byte) :
    (sumFlags x m (addResult x m c) c.toNat).Made ccr (add16Flags x m c ccr) := by
  have h := made_flagsNZVC (addResult x m c) (addOverflow x m (addResult x m c)) (addCarry x m c) ccr
  unfold sumFlags
  rw [← addOverflow16]
  exact h

/-- What `subFlags` makes of the condition codes, on bytes. -/
theorem made_subFlags8 (x m : Byte) (c : Bool) (ccr : Byte) :
    (differenceFlags x m (subResult x m c) c.toNat).Made ccr (subFlags x m c ccr) := by
  have h := made_flagsNZVC (subResult x m c) (subOverflow x m (subResult x m c)) (subBorrow x m c) ccr
  unfold differenceFlags
  rw [← subOverflow8]
  exact h

/-- What `subFlags` makes of the condition codes, on words. -/
theorem made_subFlags16 (x m : Word) (c : Bool) (ccr : Byte) :
    (differenceFlags x m (subResult x m c) c.toNat).Made ccr (subFlags x m c ccr) := by
  have h := made_flagsNZVC (subResult x m c) (subOverflow x m (subResult x m c)) (subBorrow x m c) ccr
  unfold differenceFlags
  rw [← subOverflow16]
  exact h

/-- The sticky Z: the old Z and the plain one together. -/
theorem made_stickyZ (fc : FlagChange) (old new : Byte) (z : Bool) (h : fc.Made old new) (hz : fc.z = some z) :
    FlagChange.Made { fc with z := some (z && old.getLsbD 2) } old (stickyZ old new) := by
  have h2 : new.getLsbD 2 = z := by
    have h3 := h.2.2.2.2.2.1
    rw [hz] at h3
    exact h3
  have h4 := made_putZ fc old new (old.getLsbD 2 && new.getLsbD 2) h
  rw [h2] at h4
  unfold stickyZ
  rw [h2, Bool.and_comm z]
  exact h4

/-- The sign bit says that the number is at least half the range. -/
theorem msb_iff_le {w : Nat} (v : BitVec w) : v.msb = decide (2 ^ (w - 1) ≤ v.toNat) := BitVec.msb_eq_decide v

/-- Bit 0 says that the number is odd. -/
theorem bit0_iff_odd {w : Nat} (v : BitVec w) : v.getLsbD 0 = decide (v.toNat % 2 = 1) := by
  simp [BitVec.getLsbD, Nat.testBit_zero]

/-- A left shift with `c` into bit 0: twice the operand plus `c`. -/
theorem shiftLeftIn_eq {w : Nat} (hw : 0 < w) (v : BitVec w) (c : Bool) :
    shiftLeftIn v c = BitVec.ofNat w (2 * v.toNat + c.toNat) := by
  have h1 : (v <<< 1) ||| carryIn c = (v <<< 1) + carryIn c := by
    symm
    apply BitVec.add_eq_or_of_and_eq_zero
    apply BitVec.eq_of_getLsbD_eq
    intro i hi
    cases c
    · simp [carryIn]
    · simp only [carryIn, if_true, BitVec.getLsbD_and, BitVec.getLsbD_shiftLeft, BitVec.getLsbD_one,
        BitVec.getLsbD_zero, Bool.and_eq_false_iff, decide_eq_false_iff_not]
      by_cases h0 : i = 0
      · left; subst h0; simp
      · right; right; omega
  rw [shiftLeftIn, h1]
  apply BitVec.eq_of_toNat_eq
  rw [BitVec.toNat_add, BitVec.toNat_shiftLeft, BitVec.toNat_ofNat, carryIn_toNat hw, Nat.shiftLeft_eq]
  simp [Nat.mul_comm]

/-- A right shift with `c` into the MSB: half the operand plus `c` at the top. -/
theorem shiftRightIn_eq {w : Nat} (hw : 0 < w) (v : BitVec w) (c : Bool) :
    shiftRightIn v c = BitVec.ofNat w (v.toNat / 2 + c.toNat * 2 ^ (w - 1)) := by
  have h1 : (v >>> 1) ||| (carryIn c <<< (w - 1)) = (v >>> 1) + (carryIn c <<< (w - 1)) := by
    symm
    apply BitVec.add_eq_or_of_and_eq_zero
    apply BitVec.eq_of_getLsbD_eq
    intro i hi
    cases c
    · simp [carryIn]
    · simp only [carryIn, if_true, BitVec.getLsbD_and, BitVec.getLsbD_ushiftRight, BitVec.getLsbD_shiftLeft,
        BitVec.getLsbD_one, BitVec.getLsbD_zero, Bool.and_eq_false_iff, decide_eq_false_iff_not]
      by_cases h0 : i < w - 1
      · right; simp [h0]
      · left; exact v.getLsbD_of_ge _ (by omega)
  rw [shiftRightIn, h1]
  apply BitVec.eq_of_toNat_eq
  rw [BitVec.toNat_add, BitVec.toNat_ushiftRight, BitVec.toNat_ofNat, BitVec.toNat_shiftLeft, carryIn_toNat hw,
    Nat.shiftLeft_eq, Nat.shiftRight_eq_div_pow]
  simp

/-- What `shiftFlags` makes of the condition codes. -/
theorem made_shiftFlags {w : Nat} (r : BitVec w) (c : Bool) (ccr : Byte) :
    (shiftedFlags r c).Made ccr (shiftFlags r c ccr) := by
  have h := made_flagsNZVC r (r.msb != c) c ccr
  unfold shiftedFlags shiftFlags
  rw [msb_iff_neg] at *
  exact h

/-- The low byte's flags for a test (44_inc_dec_clr_com_neg_tst.md R560). -/
theorem made_testFlags {w : Nat} (v : BitVec w) (ccr : Byte) :
    (FlagChange.nz v (some false) (some false)).Made ccr (testFlags v ccr) := made_flagsNZVC v false false ccr

end Sys2Proof.Machine
end

