-- ==== Sys2Proof/Laws/Encoding.lean ====
section
/-! SUPPORT. Reading back what the encoder writes, operand by operand, and the lengths of object code. -/

namespace Sys2Proof

open Sys2Proof.Machine

theorem wordOf_split (w : Word) : wordOf (hiByte w) (loByte w) = w := by
  simp only [wordOf, hiByte, loByte]
  apply BitVec.eq_of_getLsbD_eq
  intro i hi
  simp only [BitVec.getLsbD_append, BitVec.getLsbD_extractLsb']
  by_cases h : i < 8
  · simp [h]
  · have h2 : i - 8 < 8 := by omega
    have h3 : 8 + (i - 8) = i := by omega
    simp [h, h2, h3]

@[simp] theorem byte_cons (b : Byte) (rest : List Byte) : byte (b :: rest) = .ok (b, rest) := rfl

@[simp] theorem answer_apply {α : Type} (a : α) (bs : List Byte) : answer a bs = .ok (a, bs) := rfl

@[simp] theorem reject_apply {α : Type} (e : DecodeError) (bs : List Byte) : (reject e : Parser α) bs = .error e := rfl

/-- Reading with a reader that answers goes on with its answer. -/
theorem andThen_ok {α β : Type} {p : Parser α} {f : α → Parser β} {bs rest : List Byte} {a : α}
    (h : p bs = .ok (a, rest)) : andThen p f bs = f a rest := by simp [andThen, h]

@[simp] theorem andThen_byte {β : Type} (f : Byte → Parser β) (b : Byte) (rest : List Byte) :
    andThen byte f (b :: rest) = f b rest := rfl

@[simp] theorem word_cons (p q : Byte) (rest : List Byte) : word (p :: q :: rest) = .ok (wordOf p q, rest) := rfl

@[simp] theorem andThen_word {β : Type} (f : Word → Parser β) (p q : Byte) (rest : List Byte) :
    andThen word f (p :: q :: rest) = f (wordOf p q) rest := rfl

@[simp] theorem word_bytes (w : Word) (rest : List Byte) : word (wordBytes w ++ rest) = .ok (w, rest) := by
  simp [wordBytes, wordOf_split]

@[simp] theorem IdxReg.ofBits_bits (r : IdxReg) : IdxReg.ofBits r.bits = r := by cases r <;> rfl

@[simp] theorem AutoReg.ofBits_bits (r : AutoReg) : AutoReg.ofBits r.bits = r := by cases r <;> rfl

@[simp] theorem RegCode.ofBits_bits (r : RegCode) : RegCode.ofBits r.bits = r := by cases r <;> rfl

@[simp] theorem Ctr.ofBits_bits (c : Ctr) : Ctr.ofBits c.bits = some c := by cases c <;> rfl

theorem split9 (n : BitVec 9) : n.extractLsb' 8 1 ++ n.extractLsb' 0 8 = n := by
  apply BitVec.eq_of_getLsbD_eq
  intro i hi
  simp only [BitVec.getLsbD_append, BitVec.getLsbD_extractLsb']
  by_cases h : i < 8
  · simp [h]
  · have h2 : i = 8 := by omega
    subst h2; simp

/-- The indexed reader reads back every indexed operand and leaves the bytes after it. -/
theorem indexed_bytes (i : Idx) (rest : List Byte) : indexed (i.bytes ++ rest) = .ok (i, rest) := by
  cases i with
  | off5 r n =>
    have h1 : ∀ (q : BitVec 2) (n : BitVec 5), (q ++ 0#1 ++ n : Byte).extractLsb' 5 3 ≠ 7#3 := by decide
    have h2 : ∀ (q : BitVec 2) (n : BitVec 5), (q ++ 0#1 ++ n : Byte).getLsbD 5 = false := by decide
    have h3 : ∀ (q : BitVec 2) (n : BitVec 5), (q ++ 0#1 ++ n : Byte).extractLsb' 6 2 = q := by decide
    have h4 : ∀ (q : BitVec 2) (n : BitVec 5), (q ++ 0#1 ++ n : Byte).extractLsb' 0 5 = n := by decide
    simp only [Idx.bytes, indexed, List.cons_append, List.nil_append, andThen_byte, h1, if_false, answer_apply, lowPostbyte,
      h2, h3, h4, IdxReg.ofBits_bits, Bool.false_eq_true]
  | auto r post n =>
    have h1 : ∀ (q : AutoReg) (p : Bool) (n : BitVec 4),
        (q.bits ++ 1#1 ++ BitVec.ofBool p ++ n : Byte).extractLsb' 5 3 ≠ 7#3 := by
      intro q p; cases q <;> cases p <;> decide
    have h2 : ∀ (q : BitVec 2) (p : BitVec 1) (n : BitVec 4), (q ++ 1#1 ++ p ++ n : Byte).getLsbD 5 = true := by decide
    have h3 : ∀ (q : BitVec 2) (p : BitVec 1) (n : BitVec 4), (q ++ 1#1 ++ p ++ n : Byte).extractLsb' 6 2 = q := by decide
    have h4 : ∀ (q : BitVec 2) (p : BitVec 1) (n : BitVec 4), (q ++ 1#1 ++ p ++ n : Byte).extractLsb' 0 4 = n := by decide
    have h5 : ∀ (q : BitVec 2) (p : Bool) (n : BitVec 4), (q ++ 1#1 ++ BitVec.ofBool p ++ n : Byte).getLsbD 4 = p := by decide
    simp only [Idx.bytes, indexed, List.cons_append, List.nil_append, andThen_byte, h1, if_false, answer_apply, lowPostbyte,
      h2, h3, h4, h5, AutoReg.ofBits_bits, if_true]
  | off9 r n =>
    have h1 : ∀ (q : BitVec 2) (k : BitVec 1), (7#3 ++ q ++ 0#2 ++ k : Byte).extractLsb' 5 3 = 7#3 := by decide
    have h2 : ∀ (q : BitVec 2) (k : BitVec 1), (7#3 ++ q ++ 0#2 ++ k : Byte).extractLsb' 3 2 = q := by decide
    have h3 : ∀ (q : BitVec 2) (k : BitVec 1), ((7#3 ++ q ++ 0#2 ++ k : Byte).extractLsb' 0 3).toNat = k.toNat := by decide
    have h4 : ∀ k : BitVec 1, k = 0#1 ∨ k = 1#1 := by decide
    simp only [Idx.bytes, indexed, List.cons_append, List.nil_append, andThen_byte, h1, if_true, highPostbyte, h2, h3,
      IdxReg.ofBits_bits]
    have hs := split9 n
    rcases h4 (n.extractLsb' 8 1) with h | h
    · rw [h] at hs ⊢; simp [hs]
    · rw [h] at hs ⊢; simp [hs]
  | off16 r n => cases r <;> simp [Idx.bytes, indexed, highPostbyte, IdxReg.bits, IdxReg.ofBits, wordBytes, wordOf_split]
  | ind16 r n => cases r <;> simp [Idx.bytes, indexed, highPostbyte, IdxReg.bits, IdxReg.ofBits, wordBytes, wordOf_split]
  | acc r via => cases r <;> cases via <;> rfl
  | indD r => cases r <;> rfl

/-- An indexed operand takes one to three bytes (31_indexed_postbyte.md R141). -/
theorem Idx.bytes_length (i : Idx) : 1 ≤ i.bytes.length ∧ i.bytes.length ≤ 3 := by
  cases i <;> simp [Idx.bytes, wordBytes]

theorem encEa_length (page : List Byte) (dir ext idx : Byte) (e : Ea) :
    page.length + 2 ≤ (encEa page dir ext idx e).length ∧ (encEa page dir ext idx e).length ≤ page.length + 4 := by
  cases e with
  | dir _ => simp [encEa]
  | ext _ => simp [encEa, wordBytes]
  | idx i => have := i.bytes_length; simp [encEa]; omega

theorem encXea_length (page : List Byte) (ext idx : Byte) (e : Xea) :
    page.length + 2 ≤ (encXea page ext idx e).length ∧ (encXea page ext idx e).length ≤ page.length + 4 := by
  cases e with
  | ext _ => simp [encXea, wordBytes]
  | idx i => have := i.bytes_length; simp [encXea]; omega

theorem encSrc8_length (page : List Byte) (imm dir ext idx : Byte) (o : Src8) :
    page.length + 2 ≤ (encSrc8 page imm dir ext idx o).length ∧
    (encSrc8 page imm dir ext idx o).length ≤ page.length + 4 := by
  cases o with
  | imm _ => simp [encSrc8]
  | mem e => exact encEa_length page dir ext idx e

theorem encSrc16_length (page : List Byte) (imm dir ext idx : Byte) (o : Src16) :
    page.length + 2 ≤ (encSrc16 page imm dir ext idx o).length ∧
    (encSrc16 page imm dir ext idx o).length ≤ page.length + 4 := by
  cases o with
  | imm _ => simp [encSrc16, wordBytes]
  | mem e => exact encEa_length page dir ext idx e

theorem encEa_size (page : List Byte) (dir ext idx : Byte) (e : Ea) (h : page.length ≤ 4) :
    1 ≤ (encEa page dir ext idx e).length ∧ (encEa page dir ext idx e).length ≤ 8 := by
  have := encEa_length page dir ext idx e; omega

theorem encXea_size (page : List Byte) (ext idx : Byte) (e : Xea) (h : page.length ≤ 4) :
    1 ≤ (encXea page ext idx e).length ∧ (encXea page ext idx e).length ≤ 8 := by
  have := encXea_length page ext idx e; omega

theorem encSrc8_size (page : List Byte) (imm dir ext idx : Byte) (o : Src8) (h : page.length ≤ 4) :
    1 ≤ (encSrc8 page imm dir ext idx o).length ∧ (encSrc8 page imm dir ext idx o).length ≤ 8 := by
  have := encSrc8_length page imm dir ext idx o; omega

theorem encSrc16_size (page : List Byte) (imm dir ext idx : Byte) (o : Src16) (h : page.length ≤ 4) :
    1 ≤ (encSrc16 page imm dir ext idx o).length ∧ (encSrc16 page imm dir ext idx o).length ≤ 8 := by
  have := encSrc16_length page imm dir ext idx o; omega

theorem encEaThen_size (page : List Byte) (dir ext idx : Byte) (e : Ea) (more : List Byte)
    (h : page.length + more.length ≤ 4) :
    1 ≤ (encEa page dir ext idx e ++ more).length ∧ (encEa page dir ext idx e ++ more).length ≤ 8 := by
  have := encEa_length page dir ext idx e; simp only [List.length_append]; omega

theorem idx_size (page : List Byte) (i : Idx) (h : 1 ≤ page.length ∧ page.length ≤ 5) :
    1 ≤ (page ++ i.bytes).length ∧ (page ++ i.bytes).length ≤ 8 := by
  have := i.bytes_length; simp only [List.length_append]; omega

theorem encCall_length (t : CallTarget) : 1 ≤ (encCall t).length ∧ (encCall t).length ≤ 8 := by
  cases t with
  | ext _ _ => simp [encCall, wordBytes]
  | idx i _ => have := i.bytes_length; simp [encCall]; omega
  | ind i => have := i.bytes_length; simp [encCall]; omega

theorem encMove8_length (o : MoveSrc8) (d : Xea) : 1 ≤ (encMove8 o d).length ∧ (encMove8 o d).length ≤ 8 := by
  rcases o with v | (w | i) <;> rcases d with w' | j
  · simp [encMove8, wordBytes, prebyte]
  · have := j.bytes_length; simp [encMove8, prebyte]; omega
  · simp [encMove8, wordBytes, prebyte]
  · have := j.bytes_length; simp [encMove8, wordBytes, prebyte]; omega
  · have := i.bytes_length; simp [encMove8, wordBytes, prebyte]; omega
  · have := i.bytes_length; have := j.bytes_length; simp [encMove8, prebyte]; omega

theorem encMove16_length (o : MoveSrc16) (d : Xea) : 1 ≤ (encMove16 o d).length ∧ (encMove16 o d).length ≤ 8 := by
  rcases o with v | (w | i) <;> rcases d with w' | j
  · simp [encMove16, wordBytes, prebyte]
  · have := j.bytes_length; simp [encMove16, wordBytes, prebyte]; omega
  · simp [encMove16, wordBytes, prebyte]
  · have := j.bytes_length; simp [encMove16, wordBytes, prebyte]; omega
  · have := i.bytes_length; simp [encMove16, wordBytes, prebyte]; omega
  · have := i.bytes_length; have := j.bytes_length; simp [encMove16, prebyte]; omega

end Sys2Proof
end

