-- ==== Sys2Proof/Laws/State.lean ====
section
/-! SUPPORT. One lemma per field per update of the state, true by rfl, so that no proof unfolds a record update. -/

namespace Sys2Proof.Machine

@[simp] theorem State.setA_a (s : State) (v : Byte) : (s.setA v).a = v := rfl
@[simp] theorem State.setA_b (s : State) (v : Byte) : (s.setA v).b = s.b := rfl
@[simp] theorem State.setA_x (s : State) (v : Byte) : (s.setA v).x = s.x := rfl
@[simp] theorem State.setA_y (s : State) (v : Byte) : (s.setA v).y = s.y := rfl
@[simp] theorem State.setA_sp (s : State) (v : Byte) : (s.setA v).sp = s.sp := rfl
@[simp] theorem State.setA_pc (s : State) (v : Byte) : (s.setA v).pc = s.pc := rfl
@[simp] theorem State.setA_ccr (s : State) (v : Byte) : (s.setA v).ccr = s.ccr := rfl
@[simp] theorem State.setA_ipl (s : State) (v : Byte) : (s.setA v).ipl = s.ipl := rfl
@[simp] theorem State.setA_tmp1 (s : State) (v : Byte) : (s.setA v).tmp1 = s.tmp1 := rfl
@[simp] theorem State.setA_tmp2 (s : State) (v : Byte) : (s.setA v).tmp2 = s.tmp2 := rfl
@[simp] theorem State.setA_tmp3 (s : State) (v : Byte) : (s.setA v).tmp3 = s.tmp3 := rfl
@[simp] theorem State.setA_ppage (s : State) (v : Byte) : (s.setA v).ppage = s.ppage := rfl
@[simp] theorem State.setA_gpage (s : State) (v : Byte) : (s.setA v).gpage = s.gpage := rfl
@[simp] theorem State.setA_direct (s : State) (v : Byte) : (s.setA v).direct = s.direct := rfl
@[simp] theorem State.setA_vb (s : State) (v : Byte) : (s.setA v).vb = s.vb := rfl
@[simp] theorem State.setA_mem (s : State) (v : Byte) : (s.setA v).mem = s.mem := rfl
@[simp] theorem State.setA_run (s : State) (v : Byte) : (s.setA v).run = s.run := rfl
@[simp] theorem State.setA_iDelay (s : State) (v : Byte) : (s.setA v).iDelay = s.iDelay := rfl
@[simp] theorem State.setA_stale (s : State) (v : Byte) : (s.setA v).stale = s.stale := rfl
@[simp] theorem State.setA_inputs (s : State) (v : Byte) : (s.setA v).inputs = s.inputs := rfl
@[simp] theorem State.setA_device (s : State) (v : Byte) : (s.setA v).device = s.device := rfl
@[simp] theorem State.setA_free (s : State) (v : Byte) : (s.setA v).free = s.free := rfl

@[simp] theorem State.setB_a (s : State) (v : Byte) : (s.setB v).a = s.a := rfl
@[simp] theorem State.setB_b (s : State) (v : Byte) : (s.setB v).b = v := rfl
@[simp] theorem State.setB_x (s : State) (v : Byte) : (s.setB v).x = s.x := rfl
@[simp] theorem State.setB_y (s : State) (v : Byte) : (s.setB v).y = s.y := rfl
@[simp] theorem State.setB_sp (s : State) (v : Byte) : (s.setB v).sp = s.sp := rfl
@[simp] theorem State.setB_pc (s : State) (v : Byte) : (s.setB v).pc = s.pc := rfl
@[simp] theorem State.setB_ccr (s : State) (v : Byte) : (s.setB v).ccr = s.ccr := rfl
@[simp] theorem State.setB_ipl (s : State) (v : Byte) : (s.setB v).ipl = s.ipl := rfl
@[simp] theorem State.setB_tmp1 (s : State) (v : Byte) : (s.setB v).tmp1 = s.tmp1 := rfl
@[simp] theorem State.setB_tmp2 (s : State) (v : Byte) : (s.setB v).tmp2 = s.tmp2 := rfl
@[simp] theorem State.setB_tmp3 (s : State) (v : Byte) : (s.setB v).tmp3 = s.tmp3 := rfl
@[simp] theorem State.setB_ppage (s : State) (v : Byte) : (s.setB v).ppage = s.ppage := rfl
@[simp] theorem State.setB_gpage (s : State) (v : Byte) : (s.setB v).gpage = s.gpage := rfl
@[simp] theorem State.setB_direct (s : State) (v : Byte) : (s.setB v).direct = s.direct := rfl
@[simp] theorem State.setB_vb (s : State) (v : Byte) : (s.setB v).vb = s.vb := rfl
@[simp] theorem State.setB_mem (s : State) (v : Byte) : (s.setB v).mem = s.mem := rfl
@[simp] theorem State.setB_run (s : State) (v : Byte) : (s.setB v).run = s.run := rfl
@[simp] theorem State.setB_iDelay (s : State) (v : Byte) : (s.setB v).iDelay = s.iDelay := rfl
@[simp] theorem State.setB_stale (s : State) (v : Byte) : (s.setB v).stale = s.stale := rfl
@[simp] theorem State.setB_inputs (s : State) (v : Byte) : (s.setB v).inputs = s.inputs := rfl
@[simp] theorem State.setB_device (s : State) (v : Byte) : (s.setB v).device = s.device := rfl
@[simp] theorem State.setB_free (s : State) (v : Byte) : (s.setB v).free = s.free := rfl

@[simp] theorem State.setX_a (s : State) (v : Word) : (s.setX v).a = s.a := rfl
@[simp] theorem State.setX_b (s : State) (v : Word) : (s.setX v).b = s.b := rfl
@[simp] theorem State.setX_x (s : State) (v : Word) : (s.setX v).x = v := rfl
@[simp] theorem State.setX_y (s : State) (v : Word) : (s.setX v).y = s.y := rfl
@[simp] theorem State.setX_sp (s : State) (v : Word) : (s.setX v).sp = s.sp := rfl
@[simp] theorem State.setX_pc (s : State) (v : Word) : (s.setX v).pc = s.pc := rfl
@[simp] theorem State.setX_ccr (s : State) (v : Word) : (s.setX v).ccr = s.ccr := rfl
@[simp] theorem State.setX_ipl (s : State) (v : Word) : (s.setX v).ipl = s.ipl := rfl
@[simp] theorem State.setX_tmp1 (s : State) (v : Word) : (s.setX v).tmp1 = s.tmp1 := rfl
@[simp] theorem State.setX_tmp2 (s : State) (v : Word) : (s.setX v).tmp2 = s.tmp2 := rfl
@[simp] theorem State.setX_tmp3 (s : State) (v : Word) : (s.setX v).tmp3 = s.tmp3 := rfl
@[simp] theorem State.setX_ppage (s : State) (v : Word) : (s.setX v).ppage = s.ppage := rfl
@[simp] theorem State.setX_gpage (s : State) (v : Word) : (s.setX v).gpage = s.gpage := rfl
@[simp] theorem State.setX_direct (s : State) (v : Word) : (s.setX v).direct = s.direct := rfl
@[simp] theorem State.setX_vb (s : State) (v : Word) : (s.setX v).vb = s.vb := rfl
@[simp] theorem State.setX_mem (s : State) (v : Word) : (s.setX v).mem = s.mem := rfl
@[simp] theorem State.setX_run (s : State) (v : Word) : (s.setX v).run = s.run := rfl
@[simp] theorem State.setX_iDelay (s : State) (v : Word) : (s.setX v).iDelay = s.iDelay := rfl
@[simp] theorem State.setX_stale (s : State) (v : Word) : (s.setX v).stale = s.stale := rfl
@[simp] theorem State.setX_inputs (s : State) (v : Word) : (s.setX v).inputs = s.inputs := rfl
@[simp] theorem State.setX_device (s : State) (v : Word) : (s.setX v).device = s.device := rfl
@[simp] theorem State.setX_free (s : State) (v : Word) : (s.setX v).free = s.free := rfl

@[simp] theorem State.setY_a (s : State) (v : Word) : (s.setY v).a = s.a := rfl
@[simp] theorem State.setY_b (s : State) (v : Word) : (s.setY v).b = s.b := rfl
@[simp] theorem State.setY_x (s : State) (v : Word) : (s.setY v).x = s.x := rfl
@[simp] theorem State.setY_y (s : State) (v : Word) : (s.setY v).y = v := rfl
@[simp] theorem State.setY_sp (s : State) (v : Word) : (s.setY v).sp = s.sp := rfl
@[simp] theorem State.setY_pc (s : State) (v : Word) : (s.setY v).pc = s.pc := rfl
@[simp] theorem State.setY_ccr (s : State) (v : Word) : (s.setY v).ccr = s.ccr := rfl
@[simp] theorem State.setY_ipl (s : State) (v : Word) : (s.setY v).ipl = s.ipl := rfl
@[simp] theorem State.setY_tmp1 (s : State) (v : Word) : (s.setY v).tmp1 = s.tmp1 := rfl
@[simp] theorem State.setY_tmp2 (s : State) (v : Word) : (s.setY v).tmp2 = s.tmp2 := rfl
@[simp] theorem State.setY_tmp3 (s : State) (v : Word) : (s.setY v).tmp3 = s.tmp3 := rfl
@[simp] theorem State.setY_ppage (s : State) (v : Word) : (s.setY v).ppage = s.ppage := rfl
@[simp] theorem State.setY_gpage (s : State) (v : Word) : (s.setY v).gpage = s.gpage := rfl
@[simp] theorem State.setY_direct (s : State) (v : Word) : (s.setY v).direct = s.direct := rfl
@[simp] theorem State.setY_vb (s : State) (v : Word) : (s.setY v).vb = s.vb := rfl
@[simp] theorem State.setY_mem (s : State) (v : Word) : (s.setY v).mem = s.mem := rfl
@[simp] theorem State.setY_run (s : State) (v : Word) : (s.setY v).run = s.run := rfl
@[simp] theorem State.setY_iDelay (s : State) (v : Word) : (s.setY v).iDelay = s.iDelay := rfl
@[simp] theorem State.setY_stale (s : State) (v : Word) : (s.setY v).stale = s.stale := rfl
@[simp] theorem State.setY_inputs (s : State) (v : Word) : (s.setY v).inputs = s.inputs := rfl
@[simp] theorem State.setY_device (s : State) (v : Word) : (s.setY v).device = s.device := rfl
@[simp] theorem State.setY_free (s : State) (v : Word) : (s.setY v).free = s.free := rfl

@[simp] theorem State.setSp_a (s : State) (v : Word) : (s.setSp v).a = s.a := rfl
@[simp] theorem State.setSp_b (s : State) (v : Word) : (s.setSp v).b = s.b := rfl
@[simp] theorem State.setSp_x (s : State) (v : Word) : (s.setSp v).x = s.x := rfl
@[simp] theorem State.setSp_y (s : State) (v : Word) : (s.setSp v).y = s.y := rfl
@[simp] theorem State.setSp_sp (s : State) (v : Word) : (s.setSp v).sp = v := rfl
@[simp] theorem State.setSp_pc (s : State) (v : Word) : (s.setSp v).pc = s.pc := rfl
@[simp] theorem State.setSp_ccr (s : State) (v : Word) : (s.setSp v).ccr = s.ccr := rfl
@[simp] theorem State.setSp_ipl (s : State) (v : Word) : (s.setSp v).ipl = s.ipl := rfl
@[simp] theorem State.setSp_tmp1 (s : State) (v : Word) : (s.setSp v).tmp1 = s.tmp1 := rfl
@[simp] theorem State.setSp_tmp2 (s : State) (v : Word) : (s.setSp v).tmp2 = s.tmp2 := rfl
@[simp] theorem State.setSp_tmp3 (s : State) (v : Word) : (s.setSp v).tmp3 = s.tmp3 := rfl
@[simp] theorem State.setSp_ppage (s : State) (v : Word) : (s.setSp v).ppage = s.ppage := rfl
@[simp] theorem State.setSp_gpage (s : State) (v : Word) : (s.setSp v).gpage = s.gpage := rfl
@[simp] theorem State.setSp_direct (s : State) (v : Word) : (s.setSp v).direct = s.direct := rfl
@[simp] theorem State.setSp_vb (s : State) (v : Word) : (s.setSp v).vb = s.vb := rfl
@[simp] theorem State.setSp_mem (s : State) (v : Word) : (s.setSp v).mem = s.mem := rfl
@[simp] theorem State.setSp_run (s : State) (v : Word) : (s.setSp v).run = s.run := rfl
@[simp] theorem State.setSp_iDelay (s : State) (v : Word) : (s.setSp v).iDelay = s.iDelay := rfl
@[simp] theorem State.setSp_stale (s : State) (v : Word) : (s.setSp v).stale = s.stale := rfl
@[simp] theorem State.setSp_inputs (s : State) (v : Word) : (s.setSp v).inputs = s.inputs := rfl
@[simp] theorem State.setSp_device (s : State) (v : Word) : (s.setSp v).device = s.device := rfl
@[simp] theorem State.setSp_free (s : State) (v : Word) : (s.setSp v).free = s.free := rfl

@[simp] theorem State.setCcr_a (s : State) (v : Byte) : (s.setCcr v).a = s.a := rfl
@[simp] theorem State.setCcr_b (s : State) (v : Byte) : (s.setCcr v).b = s.b := rfl
@[simp] theorem State.setCcr_x (s : State) (v : Byte) : (s.setCcr v).x = s.x := rfl
@[simp] theorem State.setCcr_y (s : State) (v : Byte) : (s.setCcr v).y = s.y := rfl
@[simp] theorem State.setCcr_sp (s : State) (v : Byte) : (s.setCcr v).sp = s.sp := rfl
@[simp] theorem State.setCcr_pc (s : State) (v : Byte) : (s.setCcr v).pc = s.pc := rfl
@[simp] theorem State.setCcr_ccr (s : State) (v : Byte) : (s.setCcr v).ccr = v := rfl
@[simp] theorem State.setCcr_ipl (s : State) (v : Byte) : (s.setCcr v).ipl = s.ipl := rfl
@[simp] theorem State.setCcr_tmp1 (s : State) (v : Byte) : (s.setCcr v).tmp1 = s.tmp1 := rfl
@[simp] theorem State.setCcr_tmp2 (s : State) (v : Byte) : (s.setCcr v).tmp2 = s.tmp2 := rfl
@[simp] theorem State.setCcr_tmp3 (s : State) (v : Byte) : (s.setCcr v).tmp3 = s.tmp3 := rfl
@[simp] theorem State.setCcr_ppage (s : State) (v : Byte) : (s.setCcr v).ppage = s.ppage := rfl
@[simp] theorem State.setCcr_gpage (s : State) (v : Byte) : (s.setCcr v).gpage = s.gpage := rfl
@[simp] theorem State.setCcr_direct (s : State) (v : Byte) : (s.setCcr v).direct = s.direct := rfl
@[simp] theorem State.setCcr_vb (s : State) (v : Byte) : (s.setCcr v).vb = s.vb := rfl
@[simp] theorem State.setCcr_mem (s : State) (v : Byte) : (s.setCcr v).mem = s.mem := rfl
@[simp] theorem State.setCcr_run (s : State) (v : Byte) : (s.setCcr v).run = s.run := rfl
@[simp] theorem State.setCcr_iDelay (s : State) (v : Byte) : (s.setCcr v).iDelay = s.iDelay := rfl
@[simp] theorem State.setCcr_stale (s : State) (v : Byte) : (s.setCcr v).stale = s.stale := rfl
@[simp] theorem State.setCcr_inputs (s : State) (v : Byte) : (s.setCcr v).inputs = s.inputs := rfl
@[simp] theorem State.setCcr_device (s : State) (v : Byte) : (s.setCcr v).device = s.device := rfl
@[simp] theorem State.setCcr_free (s : State) (v : Byte) : (s.setCcr v).free = s.free := rfl

@[simp] theorem State.setIpl_a (s : State) (v : BitVec 3) : (s.setIpl v).a = s.a := rfl
@[simp] theorem State.setIpl_b (s : State) (v : BitVec 3) : (s.setIpl v).b = s.b := rfl
@[simp] theorem State.setIpl_x (s : State) (v : BitVec 3) : (s.setIpl v).x = s.x := rfl
@[simp] theorem State.setIpl_y (s : State) (v : BitVec 3) : (s.setIpl v).y = s.y := rfl
@[simp] theorem State.setIpl_sp (s : State) (v : BitVec 3) : (s.setIpl v).sp = s.sp := rfl
@[simp] theorem State.setIpl_pc (s : State) (v : BitVec 3) : (s.setIpl v).pc = s.pc := rfl
@[simp] theorem State.setIpl_ccr (s : State) (v : BitVec 3) : (s.setIpl v).ccr = s.ccr := rfl
@[simp] theorem State.setIpl_ipl (s : State) (v : BitVec 3) : (s.setIpl v).ipl = v := rfl
@[simp] theorem State.setIpl_tmp1 (s : State) (v : BitVec 3) : (s.setIpl v).tmp1 = s.tmp1 := rfl
@[simp] theorem State.setIpl_tmp2 (s : State) (v : BitVec 3) : (s.setIpl v).tmp2 = s.tmp2 := rfl
@[simp] theorem State.setIpl_tmp3 (s : State) (v : BitVec 3) : (s.setIpl v).tmp3 = s.tmp3 := rfl
@[simp] theorem State.setIpl_ppage (s : State) (v : BitVec 3) : (s.setIpl v).ppage = s.ppage := rfl
@[simp] theorem State.setIpl_gpage (s : State) (v : BitVec 3) : (s.setIpl v).gpage = s.gpage := rfl
@[simp] theorem State.setIpl_direct (s : State) (v : BitVec 3) : (s.setIpl v).direct = s.direct := rfl
@[simp] theorem State.setIpl_vb (s : State) (v : BitVec 3) : (s.setIpl v).vb = s.vb := rfl
@[simp] theorem State.setIpl_mem (s : State) (v : BitVec 3) : (s.setIpl v).mem = s.mem := rfl
@[simp] theorem State.setIpl_run (s : State) (v : BitVec 3) : (s.setIpl v).run = s.run := rfl
@[simp] theorem State.setIpl_iDelay (s : State) (v : BitVec 3) : (s.setIpl v).iDelay = s.iDelay := rfl
@[simp] theorem State.setIpl_stale (s : State) (v : BitVec 3) : (s.setIpl v).stale = s.stale := rfl
@[simp] theorem State.setIpl_inputs (s : State) (v : BitVec 3) : (s.setIpl v).inputs = s.inputs := rfl
@[simp] theorem State.setIpl_device (s : State) (v : BitVec 3) : (s.setIpl v).device = s.device := rfl
@[simp] theorem State.setIpl_free (s : State) (v : BitVec 3) : (s.setIpl v).free = s.free := rfl

@[simp] theorem State.setTmp1_a (s : State) (v : Word) : (s.setTmp1 v).a = s.a := rfl
@[simp] theorem State.setTmp1_b (s : State) (v : Word) : (s.setTmp1 v).b = s.b := rfl
@[simp] theorem State.setTmp1_x (s : State) (v : Word) : (s.setTmp1 v).x = s.x := rfl
@[simp] theorem State.setTmp1_y (s : State) (v : Word) : (s.setTmp1 v).y = s.y := rfl
@[simp] theorem State.setTmp1_sp (s : State) (v : Word) : (s.setTmp1 v).sp = s.sp := rfl
@[simp] theorem State.setTmp1_pc (s : State) (v : Word) : (s.setTmp1 v).pc = s.pc := rfl
@[simp] theorem State.setTmp1_ccr (s : State) (v : Word) : (s.setTmp1 v).ccr = s.ccr := rfl
@[simp] theorem State.setTmp1_ipl (s : State) (v : Word) : (s.setTmp1 v).ipl = s.ipl := rfl
@[simp] theorem State.setTmp1_tmp1 (s : State) (v : Word) : (s.setTmp1 v).tmp1 = v := rfl
@[simp] theorem State.setTmp1_tmp2 (s : State) (v : Word) : (s.setTmp1 v).tmp2 = s.tmp2 := rfl
@[simp] theorem State.setTmp1_tmp3 (s : State) (v : Word) : (s.setTmp1 v).tmp3 = s.tmp3 := rfl
@[simp] theorem State.setTmp1_ppage (s : State) (v : Word) : (s.setTmp1 v).ppage = s.ppage := rfl
@[simp] theorem State.setTmp1_gpage (s : State) (v : Word) : (s.setTmp1 v).gpage = s.gpage := rfl
@[simp] theorem State.setTmp1_direct (s : State) (v : Word) : (s.setTmp1 v).direct = s.direct := rfl
@[simp] theorem State.setTmp1_vb (s : State) (v : Word) : (s.setTmp1 v).vb = s.vb := rfl
@[simp] theorem State.setTmp1_mem (s : State) (v : Word) : (s.setTmp1 v).mem = s.mem := rfl
@[simp] theorem State.setTmp1_run (s : State) (v : Word) : (s.setTmp1 v).run = s.run := rfl
@[simp] theorem State.setTmp1_iDelay (s : State) (v : Word) : (s.setTmp1 v).iDelay = s.iDelay := rfl
@[simp] theorem State.setTmp1_stale (s : State) (v : Word) : (s.setTmp1 v).stale = s.stale := rfl
@[simp] theorem State.setTmp1_inputs (s : State) (v : Word) : (s.setTmp1 v).inputs = s.inputs := rfl
@[simp] theorem State.setTmp1_device (s : State) (v : Word) : (s.setTmp1 v).device = s.device := rfl
@[simp] theorem State.setTmp1_free (s : State) (v : Word) : (s.setTmp1 v).free = s.free := rfl

@[simp] theorem State.setTmp2_a (s : State) (v : Word) : (s.setTmp2 v).a = s.a := rfl
@[simp] theorem State.setTmp2_b (s : State) (v : Word) : (s.setTmp2 v).b = s.b := rfl
@[simp] theorem State.setTmp2_x (s : State) (v : Word) : (s.setTmp2 v).x = s.x := rfl
@[simp] theorem State.setTmp2_y (s : State) (v : Word) : (s.setTmp2 v).y = s.y := rfl
@[simp] theorem State.setTmp2_sp (s : State) (v : Word) : (s.setTmp2 v).sp = s.sp := rfl
@[simp] theorem State.setTmp2_pc (s : State) (v : Word) : (s.setTmp2 v).pc = s.pc := rfl
@[simp] theorem State.setTmp2_ccr (s : State) (v : Word) : (s.setTmp2 v).ccr = s.ccr := rfl
@[simp] theorem State.setTmp2_ipl (s : State) (v : Word) : (s.setTmp2 v).ipl = s.ipl := rfl
@[simp] theorem State.setTmp2_tmp1 (s : State) (v : Word) : (s.setTmp2 v).tmp1 = s.tmp1 := rfl
@[simp] theorem State.setTmp2_tmp2 (s : State) (v : Word) : (s.setTmp2 v).tmp2 = v := rfl
@[simp] theorem State.setTmp2_tmp3 (s : State) (v : Word) : (s.setTmp2 v).tmp3 = s.tmp3 := rfl
@[simp] theorem State.setTmp2_ppage (s : State) (v : Word) : (s.setTmp2 v).ppage = s.ppage := rfl
@[simp] theorem State.setTmp2_gpage (s : State) (v : Word) : (s.setTmp2 v).gpage = s.gpage := rfl
@[simp] theorem State.setTmp2_direct (s : State) (v : Word) : (s.setTmp2 v).direct = s.direct := rfl
@[simp] theorem State.setTmp2_vb (s : State) (v : Word) : (s.setTmp2 v).vb = s.vb := rfl
@[simp] theorem State.setTmp2_mem (s : State) (v : Word) : (s.setTmp2 v).mem = s.mem := rfl
@[simp] theorem State.setTmp2_run (s : State) (v : Word) : (s.setTmp2 v).run = s.run := rfl
@[simp] theorem State.setTmp2_iDelay (s : State) (v : Word) : (s.setTmp2 v).iDelay = s.iDelay := rfl
@[simp] theorem State.setTmp2_stale (s : State) (v : Word) : (s.setTmp2 v).stale = s.stale := rfl
@[simp] theorem State.setTmp2_inputs (s : State) (v : Word) : (s.setTmp2 v).inputs = s.inputs := rfl
@[simp] theorem State.setTmp2_device (s : State) (v : Word) : (s.setTmp2 v).device = s.device := rfl
@[simp] theorem State.setTmp2_free (s : State) (v : Word) : (s.setTmp2 v).free = s.free := rfl

@[simp] theorem State.setTmp3_a (s : State) (v : Word) : (s.setTmp3 v).a = s.a := rfl
@[simp] theorem State.setTmp3_b (s : State) (v : Word) : (s.setTmp3 v).b = s.b := rfl
@[simp] theorem State.setTmp3_x (s : State) (v : Word) : (s.setTmp3 v).x = s.x := rfl
@[simp] theorem State.setTmp3_y (s : State) (v : Word) : (s.setTmp3 v).y = s.y := rfl
@[simp] theorem State.setTmp3_sp (s : State) (v : Word) : (s.setTmp3 v).sp = s.sp := rfl
@[simp] theorem State.setTmp3_pc (s : State) (v : Word) : (s.setTmp3 v).pc = s.pc := rfl
@[simp] theorem State.setTmp3_ccr (s : State) (v : Word) : (s.setTmp3 v).ccr = s.ccr := rfl
@[simp] theorem State.setTmp3_ipl (s : State) (v : Word) : (s.setTmp3 v).ipl = s.ipl := rfl
@[simp] theorem State.setTmp3_tmp1 (s : State) (v : Word) : (s.setTmp3 v).tmp1 = s.tmp1 := rfl
@[simp] theorem State.setTmp3_tmp2 (s : State) (v : Word) : (s.setTmp3 v).tmp2 = s.tmp2 := rfl
@[simp] theorem State.setTmp3_tmp3 (s : State) (v : Word) : (s.setTmp3 v).tmp3 = v := rfl
@[simp] theorem State.setTmp3_ppage (s : State) (v : Word) : (s.setTmp3 v).ppage = s.ppage := rfl
@[simp] theorem State.setTmp3_gpage (s : State) (v : Word) : (s.setTmp3 v).gpage = s.gpage := rfl
@[simp] theorem State.setTmp3_direct (s : State) (v : Word) : (s.setTmp3 v).direct = s.direct := rfl
@[simp] theorem State.setTmp3_vb (s : State) (v : Word) : (s.setTmp3 v).vb = s.vb := rfl
@[simp] theorem State.setTmp3_mem (s : State) (v : Word) : (s.setTmp3 v).mem = s.mem := rfl
@[simp] theorem State.setTmp3_run (s : State) (v : Word) : (s.setTmp3 v).run = s.run := rfl
@[simp] theorem State.setTmp3_iDelay (s : State) (v : Word) : (s.setTmp3 v).iDelay = s.iDelay := rfl
@[simp] theorem State.setTmp3_stale (s : State) (v : Word) : (s.setTmp3 v).stale = s.stale := rfl
@[simp] theorem State.setTmp3_inputs (s : State) (v : Word) : (s.setTmp3 v).inputs = s.inputs := rfl
@[simp] theorem State.setTmp3_device (s : State) (v : Word) : (s.setTmp3 v).device = s.device := rfl
@[simp] theorem State.setTmp3_free (s : State) (v : Word) : (s.setTmp3 v).free = s.free := rfl

@[simp] theorem State.setPpage_a (s : State) (v : Byte) : (s.setPpage v).a = s.a := rfl
@[simp] theorem State.setPpage_b (s : State) (v : Byte) : (s.setPpage v).b = s.b := rfl
@[simp] theorem State.setPpage_x (s : State) (v : Byte) : (s.setPpage v).x = s.x := rfl
@[simp] theorem State.setPpage_y (s : State) (v : Byte) : (s.setPpage v).y = s.y := rfl
@[simp] theorem State.setPpage_sp (s : State) (v : Byte) : (s.setPpage v).sp = s.sp := rfl
@[simp] theorem State.setPpage_pc (s : State) (v : Byte) : (s.setPpage v).pc = s.pc := rfl
@[simp] theorem State.setPpage_ccr (s : State) (v : Byte) : (s.setPpage v).ccr = s.ccr := rfl
@[simp] theorem State.setPpage_ipl (s : State) (v : Byte) : (s.setPpage v).ipl = s.ipl := rfl
@[simp] theorem State.setPpage_tmp1 (s : State) (v : Byte) : (s.setPpage v).tmp1 = s.tmp1 := rfl
@[simp] theorem State.setPpage_tmp2 (s : State) (v : Byte) : (s.setPpage v).tmp2 = s.tmp2 := rfl
@[simp] theorem State.setPpage_tmp3 (s : State) (v : Byte) : (s.setPpage v).tmp3 = s.tmp3 := rfl
@[simp] theorem State.setPpage_ppage (s : State) (v : Byte) : (s.setPpage v).ppage = v := rfl
@[simp] theorem State.setPpage_gpage (s : State) (v : Byte) : (s.setPpage v).gpage = s.gpage := rfl
@[simp] theorem State.setPpage_direct (s : State) (v : Byte) : (s.setPpage v).direct = s.direct := rfl
@[simp] theorem State.setPpage_vb (s : State) (v : Byte) : (s.setPpage v).vb = s.vb := rfl
@[simp] theorem State.setPpage_mem (s : State) (v : Byte) : (s.setPpage v).mem = s.mem := rfl
@[simp] theorem State.setPpage_run (s : State) (v : Byte) : (s.setPpage v).run = s.run := rfl
@[simp] theorem State.setPpage_iDelay (s : State) (v : Byte) : (s.setPpage v).iDelay = s.iDelay := rfl
@[simp] theorem State.setPpage_stale (s : State) (v : Byte) : (s.setPpage v).stale = s.stale := rfl
@[simp] theorem State.setPpage_inputs (s : State) (v : Byte) : (s.setPpage v).inputs = s.inputs := rfl
@[simp] theorem State.setPpage_device (s : State) (v : Byte) : (s.setPpage v).device = s.device := rfl
@[simp] theorem State.setPpage_free (s : State) (v : Byte) : (s.setPpage v).free = s.free := rfl

@[simp] theorem State.setRun_a (s : State) (v : RunState) : (s.setRun v).a = s.a := rfl
@[simp] theorem State.setRun_b (s : State) (v : RunState) : (s.setRun v).b = s.b := rfl
@[simp] theorem State.setRun_x (s : State) (v : RunState) : (s.setRun v).x = s.x := rfl
@[simp] theorem State.setRun_y (s : State) (v : RunState) : (s.setRun v).y = s.y := rfl
@[simp] theorem State.setRun_sp (s : State) (v : RunState) : (s.setRun v).sp = s.sp := rfl
@[simp] theorem State.setRun_pc (s : State) (v : RunState) : (s.setRun v).pc = s.pc := rfl
@[simp] theorem State.setRun_ccr (s : State) (v : RunState) : (s.setRun v).ccr = s.ccr := rfl
@[simp] theorem State.setRun_ipl (s : State) (v : RunState) : (s.setRun v).ipl = s.ipl := rfl
@[simp] theorem State.setRun_tmp1 (s : State) (v : RunState) : (s.setRun v).tmp1 = s.tmp1 := rfl
@[simp] theorem State.setRun_tmp2 (s : State) (v : RunState) : (s.setRun v).tmp2 = s.tmp2 := rfl
@[simp] theorem State.setRun_tmp3 (s : State) (v : RunState) : (s.setRun v).tmp3 = s.tmp3 := rfl
@[simp] theorem State.setRun_ppage (s : State) (v : RunState) : (s.setRun v).ppage = s.ppage := rfl
@[simp] theorem State.setRun_gpage (s : State) (v : RunState) : (s.setRun v).gpage = s.gpage := rfl
@[simp] theorem State.setRun_direct (s : State) (v : RunState) : (s.setRun v).direct = s.direct := rfl
@[simp] theorem State.setRun_vb (s : State) (v : RunState) : (s.setRun v).vb = s.vb := rfl
@[simp] theorem State.setRun_mem (s : State) (v : RunState) : (s.setRun v).mem = s.mem := rfl
@[simp] theorem State.setRun_run (s : State) (v : RunState) : (s.setRun v).run = v := rfl
@[simp] theorem State.setRun_iDelay (s : State) (v : RunState) : (s.setRun v).iDelay = s.iDelay := rfl
@[simp] theorem State.setRun_stale (s : State) (v : RunState) : (s.setRun v).stale = s.stale := rfl
@[simp] theorem State.setRun_inputs (s : State) (v : RunState) : (s.setRun v).inputs = s.inputs := rfl
@[simp] theorem State.setRun_device (s : State) (v : RunState) : (s.setRun v).device = s.device := rfl
@[simp] theorem State.setRun_free (s : State) (v : RunState) : (s.setRun v).free = s.free := rfl

@[simp] theorem State.setD_a (s : State) (v : Word) : (s.setD v).a = hiByte v := rfl
@[simp] theorem State.setD_b (s : State) (v : Word) : (s.setD v).b = loByte v := rfl
@[simp] theorem State.setD_x (s : State) (v : Word) : (s.setD v).x = s.x := rfl
@[simp] theorem State.setD_y (s : State) (v : Word) : (s.setD v).y = s.y := rfl
@[simp] theorem State.setD_sp (s : State) (v : Word) : (s.setD v).sp = s.sp := rfl
@[simp] theorem State.setD_pc (s : State) (v : Word) : (s.setD v).pc = s.pc := rfl
@[simp] theorem State.setD_ccr (s : State) (v : Word) : (s.setD v).ccr = s.ccr := rfl
@[simp] theorem State.setD_ipl (s : State) (v : Word) : (s.setD v).ipl = s.ipl := rfl
@[simp] theorem State.setD_tmp1 (s : State) (v : Word) : (s.setD v).tmp1 = s.tmp1 := rfl
@[simp] theorem State.setD_tmp2 (s : State) (v : Word) : (s.setD v).tmp2 = s.tmp2 := rfl
@[simp] theorem State.setD_tmp3 (s : State) (v : Word) : (s.setD v).tmp3 = s.tmp3 := rfl
@[simp] theorem State.setD_ppage (s : State) (v : Word) : (s.setD v).ppage = s.ppage := rfl
@[simp] theorem State.setD_gpage (s : State) (v : Word) : (s.setD v).gpage = s.gpage := rfl
@[simp] theorem State.setD_direct (s : State) (v : Word) : (s.setD v).direct = s.direct := rfl
@[simp] theorem State.setD_vb (s : State) (v : Word) : (s.setD v).vb = s.vb := rfl
@[simp] theorem State.setD_mem (s : State) (v : Word) : (s.setD v).mem = s.mem := rfl
@[simp] theorem State.setD_run (s : State) (v : Word) : (s.setD v).run = s.run := rfl
@[simp] theorem State.setD_iDelay (s : State) (v : Word) : (s.setD v).iDelay = s.iDelay := rfl
@[simp] theorem State.setD_stale (s : State) (v : Word) : (s.setD v).stale = s.stale := rfl
@[simp] theorem State.setD_inputs (s : State) (v : Word) : (s.setD v).inputs = s.inputs := rfl
@[simp] theorem State.setD_device (s : State) (v : Word) : (s.setD v).device = s.device := rfl
@[simp] theorem State.setD_free (s : State) (v : Word) : (s.setD v).free = s.free := rfl

@[simp] theorem State.jumpTo_a (s : State) (w : Word) : (s.jumpTo w).a = s.a := rfl
@[simp] theorem State.jumpTo_b (s : State) (w : Word) : (s.jumpTo w).b = s.b := rfl
@[simp] theorem State.jumpTo_x (s : State) (w : Word) : (s.jumpTo w).x = s.x := rfl
@[simp] theorem State.jumpTo_y (s : State) (w : Word) : (s.jumpTo w).y = s.y := rfl
@[simp] theorem State.jumpTo_sp (s : State) (w : Word) : (s.jumpTo w).sp = s.sp := rfl
@[simp] theorem State.jumpTo_pc (s : State) (w : Word) : (s.jumpTo w).pc = w := rfl
@[simp] theorem State.jumpTo_ccr (s : State) (w : Word) : (s.jumpTo w).ccr = s.ccr := rfl
@[simp] theorem State.jumpTo_ipl (s : State) (w : Word) : (s.jumpTo w).ipl = s.ipl := rfl
@[simp] theorem State.jumpTo_tmp1 (s : State) (w : Word) : (s.jumpTo w).tmp1 = s.tmp1 := rfl
@[simp] theorem State.jumpTo_tmp2 (s : State) (w : Word) : (s.jumpTo w).tmp2 = s.tmp2 := rfl
@[simp] theorem State.jumpTo_tmp3 (s : State) (w : Word) : (s.jumpTo w).tmp3 = s.tmp3 := rfl
@[simp] theorem State.jumpTo_ppage (s : State) (w : Word) : (s.jumpTo w).ppage = s.ppage := rfl
@[simp] theorem State.jumpTo_gpage (s : State) (w : Word) : (s.jumpTo w).gpage = s.gpage := rfl
@[simp] theorem State.jumpTo_direct (s : State) (w : Word) : (s.jumpTo w).direct = s.direct := rfl
@[simp] theorem State.jumpTo_vb (s : State) (w : Word) : (s.jumpTo w).vb = s.vb := rfl
@[simp] theorem State.jumpTo_mem (s : State) (w : Word) : (s.jumpTo w).mem = s.mem := rfl
@[simp] theorem State.jumpTo_run (s : State) (w : Word) : (s.jumpTo w).run = s.run := rfl
@[simp] theorem State.jumpTo_iDelay (s : State) (w : Word) : (s.jumpTo w).iDelay = s.iDelay := rfl
@[simp] theorem State.jumpTo_stale (s : State) (w : Word) : (s.jumpTo w).stale = [] := rfl
@[simp] theorem State.jumpTo_inputs (s : State) (w : Word) : (s.jumpTo w).inputs = s.inputs := rfl
@[simp] theorem State.jumpTo_device (s : State) (w : Word) : (s.jumpTo w).device = s.device := rfl
@[simp] theorem State.jumpTo_free (s : State) (w : Word) : (s.jumpTo w).free = s.free := rfl

@[simp] theorem State.useFree_a (s : State) : (s.useFree).a = s.a := rfl
@[simp] theorem State.useFree_b (s : State) : (s.useFree).b = s.b := rfl
@[simp] theorem State.useFree_x (s : State) : (s.useFree).x = s.x := rfl
@[simp] theorem State.useFree_y (s : State) : (s.useFree).y = s.y := rfl
@[simp] theorem State.useFree_sp (s : State) : (s.useFree).sp = s.sp := rfl
@[simp] theorem State.useFree_pc (s : State) : (s.useFree).pc = s.pc := rfl
@[simp] theorem State.useFree_ccr (s : State) : (s.useFree).ccr = s.ccr := rfl
@[simp] theorem State.useFree_ipl (s : State) : (s.useFree).ipl = s.ipl := rfl
@[simp] theorem State.useFree_tmp1 (s : State) : (s.useFree).tmp1 = s.tmp1 := rfl
@[simp] theorem State.useFree_tmp2 (s : State) : (s.useFree).tmp2 = s.tmp2 := rfl
@[simp] theorem State.useFree_tmp3 (s : State) : (s.useFree).tmp3 = s.tmp3 := rfl
@[simp] theorem State.useFree_ppage (s : State) : (s.useFree).ppage = s.ppage := rfl
@[simp] theorem State.useFree_gpage (s : State) : (s.useFree).gpage = s.gpage := rfl
@[simp] theorem State.useFree_direct (s : State) : (s.useFree).direct = s.direct := rfl
@[simp] theorem State.useFree_vb (s : State) : (s.useFree).vb = s.vb := rfl
@[simp] theorem State.useFree_mem (s : State) : (s.useFree).mem = s.mem := rfl
@[simp] theorem State.useFree_run (s : State) : (s.useFree).run = s.run := rfl
@[simp] theorem State.useFree_iDelay (s : State) : (s.useFree).iDelay = s.iDelay := rfl
@[simp] theorem State.useFree_stale (s : State) : (s.useFree).stale = s.stale := rfl
@[simp] theorem State.useFree_inputs (s : State) : (s.useFree).inputs = s.inputs := rfl
@[simp] theorem State.useFree_device (s : State) : (s.useFree).device = s.device := rfl
@[simp] theorem State.useFree_free (s : State) : (s.useFree).free = s.free + 1 := rfl

@[simp] theorem State.drop_a (s : State) (n : Word) : (s.drop n).a = s.a := rfl
@[simp] theorem State.drop_b (s : State) (n : Word) : (s.drop n).b = s.b := rfl
@[simp] theorem State.drop_x (s : State) (n : Word) : (s.drop n).x = s.x := rfl
@[simp] theorem State.drop_y (s : State) (n : Word) : (s.drop n).y = s.y := rfl
@[simp] theorem State.drop_sp (s : State) (n : Word) : (s.drop n).sp = s.sp + n := rfl
@[simp] theorem State.drop_pc (s : State) (n : Word) : (s.drop n).pc = s.pc := rfl
@[simp] theorem State.drop_ccr (s : State) (n : Word) : (s.drop n).ccr = s.ccr := rfl
@[simp] theorem State.drop_ipl (s : State) (n : Word) : (s.drop n).ipl = s.ipl := rfl
@[simp] theorem State.drop_tmp1 (s : State) (n : Word) : (s.drop n).tmp1 = s.tmp1 := rfl
@[simp] theorem State.drop_tmp2 (s : State) (n : Word) : (s.drop n).tmp2 = s.tmp2 := rfl
@[simp] theorem State.drop_tmp3 (s : State) (n : Word) : (s.drop n).tmp3 = s.tmp3 := rfl
@[simp] theorem State.drop_ppage (s : State) (n : Word) : (s.drop n).ppage = s.ppage := rfl
@[simp] theorem State.drop_gpage (s : State) (n : Word) : (s.drop n).gpage = s.gpage := rfl
@[simp] theorem State.drop_direct (s : State) (n : Word) : (s.drop n).direct = s.direct := rfl
@[simp] theorem State.drop_vb (s : State) (n : Word) : (s.drop n).vb = s.vb := rfl
@[simp] theorem State.drop_mem (s : State) (n : Word) : (s.drop n).mem = s.mem := rfl
@[simp] theorem State.drop_run (s : State) (n : Word) : (s.drop n).run = s.run := rfl
@[simp] theorem State.drop_iDelay (s : State) (n : Word) : (s.drop n).iDelay = s.iDelay := rfl
@[simp] theorem State.drop_stale (s : State) (n : Word) : (s.drop n).stale = s.stale := rfl
@[simp] theorem State.drop_inputs (s : State) (n : Word) : (s.drop n).inputs = s.inputs := rfl
@[simp] theorem State.drop_device (s : State) (n : Word) : (s.drop n).device = s.device := rfl
@[simp] theorem State.drop_free (s : State) (n : Word) : (s.drop n).free = s.free := rfl

@[simp] theorem State.writeCcr_a (s : State) (v : Byte) : (s.writeCcr v).a = s.a := rfl
@[simp] theorem State.writeCcr_b (s : State) (v : Byte) : (s.writeCcr v).b = s.b := rfl
@[simp] theorem State.writeCcr_x (s : State) (v : Byte) : (s.writeCcr v).x = s.x := rfl
@[simp] theorem State.writeCcr_y (s : State) (v : Byte) : (s.writeCcr v).y = s.y := rfl
@[simp] theorem State.writeCcr_sp (s : State) (v : Byte) : (s.writeCcr v).sp = s.sp := rfl
@[simp] theorem State.writeCcr_pc (s : State) (v : Byte) : (s.writeCcr v).pc = s.pc := rfl
@[simp] theorem State.writeCcr_ccr (s : State) (v : Byte) : (s.writeCcr v).ccr = xRule s.ccr v := rfl
@[simp] theorem State.writeCcr_ipl (s : State) (v : Byte) : (s.writeCcr v).ipl = s.ipl := rfl
@[simp] theorem State.writeCcr_tmp1 (s : State) (v : Byte) : (s.writeCcr v).tmp1 = s.tmp1 := rfl
@[simp] theorem State.writeCcr_tmp2 (s : State) (v : Byte) : (s.writeCcr v).tmp2 = s.tmp2 := rfl
@[simp] theorem State.writeCcr_tmp3 (s : State) (v : Byte) : (s.writeCcr v).tmp3 = s.tmp3 := rfl
@[simp] theorem State.writeCcr_ppage (s : State) (v : Byte) : (s.writeCcr v).ppage = s.ppage := rfl
@[simp] theorem State.writeCcr_gpage (s : State) (v : Byte) : (s.writeCcr v).gpage = s.gpage := rfl
@[simp] theorem State.writeCcr_direct (s : State) (v : Byte) : (s.writeCcr v).direct = s.direct := rfl
@[simp] theorem State.writeCcr_vb (s : State) (v : Byte) : (s.writeCcr v).vb = s.vb := rfl
@[simp] theorem State.writeCcr_mem (s : State) (v : Byte) : (s.writeCcr v).mem = s.mem := rfl
@[simp] theorem State.writeCcr_run (s : State) (v : Byte) : (s.writeCcr v).run = s.run := rfl
@[simp] theorem State.writeCcr_iDelay (s : State) (v : Byte) : (s.writeCcr v).iDelay = (s.ccr.getLsbD 4 && !v.getLsbD 4) := rfl
@[simp] theorem State.writeCcr_stale (s : State) (v : Byte) : (s.writeCcr v).stale = s.stale := rfl
@[simp] theorem State.writeCcr_inputs (s : State) (v : Byte) : (s.writeCcr v).inputs = s.inputs := rfl
@[simp] theorem State.writeCcr_device (s : State) (v : Byte) : (s.writeCcr v).device = s.device := rfl
@[simp] theorem State.writeCcr_free (s : State) (v : Byte) : (s.writeCcr v).free = s.free := rfl

@[simp] theorem State.freeFlags_a (s : State) (m : Byte) : (s.freeFlags m).a = s.a := rfl
@[simp] theorem State.freeFlags_b (s : State) (m : Byte) : (s.freeFlags m).b = s.b := rfl
@[simp] theorem State.freeFlags_x (s : State) (m : Byte) : (s.freeFlags m).x = s.x := rfl
@[simp] theorem State.freeFlags_y (s : State) (m : Byte) : (s.freeFlags m).y = s.y := rfl
@[simp] theorem State.freeFlags_sp (s : State) (m : Byte) : (s.freeFlags m).sp = s.sp := rfl
@[simp] theorem State.freeFlags_pc (s : State) (m : Byte) : (s.freeFlags m).pc = s.pc := rfl
@[simp] theorem State.freeFlags_ccr (s : State) (m : Byte) : (s.freeFlags m).ccr = ((s.ccr &&& ~~~m) ||| (Config.freeByte s.free &&& m)) := rfl
@[simp] theorem State.freeFlags_ipl (s : State) (m : Byte) : (s.freeFlags m).ipl = s.ipl := rfl
@[simp] theorem State.freeFlags_tmp1 (s : State) (m : Byte) : (s.freeFlags m).tmp1 = s.tmp1 := rfl
@[simp] theorem State.freeFlags_tmp2 (s : State) (m : Byte) : (s.freeFlags m).tmp2 = s.tmp2 := rfl
@[simp] theorem State.freeFlags_tmp3 (s : State) (m : Byte) : (s.freeFlags m).tmp3 = s.tmp3 := rfl
@[simp] theorem State.freeFlags_ppage (s : State) (m : Byte) : (s.freeFlags m).ppage = s.ppage := rfl
@[simp] theorem State.freeFlags_gpage (s : State) (m : Byte) : (s.freeFlags m).gpage = s.gpage := rfl
@[simp] theorem State.freeFlags_direct (s : State) (m : Byte) : (s.freeFlags m).direct = s.direct := rfl
@[simp] theorem State.freeFlags_vb (s : State) (m : Byte) : (s.freeFlags m).vb = s.vb := rfl
@[simp] theorem State.freeFlags_mem (s : State) (m : Byte) : (s.freeFlags m).mem = s.mem := rfl
@[simp] theorem State.freeFlags_run (s : State) (m : Byte) : (s.freeFlags m).run = s.run := rfl
@[simp] theorem State.freeFlags_iDelay (s : State) (m : Byte) : (s.freeFlags m).iDelay = s.iDelay := rfl
@[simp] theorem State.freeFlags_stale (s : State) (m : Byte) : (s.freeFlags m).stale = s.stale := rfl
@[simp] theorem State.freeFlags_inputs (s : State) (m : Byte) : (s.freeFlags m).inputs = s.inputs := rfl
@[simp] theorem State.freeFlags_device (s : State) (m : Byte) : (s.freeFlags m).device = s.device := rfl
@[simp] theorem State.freeFlags_free (s : State) (m : Byte) : (s.freeFlags m).free = s.free + 1 := rfl

end Sys2Proof.Machine
end

