-- ==== Sys2Proof/Laws/Memory.lean ====
section
/-! SUPPORT. Memory: a read after a write, and the canonical form that every write keeps. -/

namespace Sys2Proof.Machine

theorem Memory.read_cons (m : List Host.Cell) (k j : Nat) (v : Byte) :
    Memory.read (Memory.cons k v m) j = if j = k ∧ v ≠ Config.unlistedByte then v else Memory.read m j := by
  unfold Memory.cons
  by_cases hv : v = Config.unlistedByte
  · simp [hv]
  · by_cases hj : j = k
    · simp [hv, hj, Memory.read]
    · simp [hv, hj, Memory.read, Ne.symm hj]

/-- A write leaves every other address alone. -/
theorem Memory.read_write_ne (m : List Host.Cell) (k j : Nat) (v : Byte) (h : j ≠ k) :
    Memory.read (Memory.write m k v) j = Memory.read m j := by
  induction m with
  | nil => simp [Memory.write, Memory.read_cons, h]
  | cons c rest ih =>
    obtain ⟨k', v'⟩ := c
    simp only [Memory.write]
    split
    · simp [Memory.read_cons, h]
    · split
      · next hk => subst hk; simp [Memory.read_cons, h, Memory.read, Ne.symm h]
      · simp [Memory.read, ih]

/-- An address below every listed one reads as unlisted. -/
theorem Memory.read_below (m : List Host.Cell) (lo k : Nat) (hm : Memory.wfFrom lo m = true) (hk : k < lo) :
    Memory.read m k = Config.unlistedByte := by
  induction m generalizing lo with
  | nil => rfl
  | cons c rest ih =>
    obtain ⟨k', v'⟩ := c
    simp only [Memory.wfFrom, Bool.and_eq_true, decide_eq_true_eq] at hm
    have hne : k' ≠ k := by omega
    simp only [Memory.read, hne, if_false]
    exact ih (k' + 1) hm.2 (by omega)

/-- A canonical memory reads, after a write, what was written. -/
theorem Memory.read_write_self (m : List Host.Cell) (lo k : Nat) (v : Byte) (hm : Memory.wfFrom lo m = true) :
    Memory.read (Memory.write m k v) k = v := by
  induction m generalizing lo with
  | nil => by_cases hv : v = Config.unlistedByte <;> simp [Memory.write, Memory.read_cons, hv, Memory.read]
  | cons c rest ih =>
    obtain ⟨k', v'⟩ := c
    have hall := hm
    simp only [Memory.wfFrom, Bool.and_eq_true, decide_eq_true_eq] at hm
    simp only [Memory.write]
    split
    · next hk =>
      have hb : Memory.read ((k', v') :: rest) k = Config.unlistedByte := by
        have h1 : k' ≠ k := by omega
        simp only [Memory.read, h1, if_false]
        exact Memory.read_below rest (k' + 1) k hm.2 (by omega)
      by_cases hv : v = Config.unlistedByte
      · rw [Memory.read_cons, hb]; simp [hv]
      · rw [Memory.read_cons]; simp [hv]
    · split
      · next hk =>
        subst hk
        have hb := Memory.read_below rest (k + 1) k hm.2 (by omega)
        by_cases hv : v = Config.unlistedByte
        · rw [Memory.read_cons, hb]; simp [hv]
        · rw [Memory.read_cons]; simp [hv]
      · next h1 h2 =>
        have h3 : k' ≠ k := Ne.symm h2
        simp only [Memory.read, h3, if_false]
        exact ih (k' + 1) hm.2

theorem Memory.wfFrom_mono (m : List Host.Cell) (lo lo' : Nat) (h : lo' ≤ lo) (hm : Memory.wfFrom lo m = true) :
    Memory.wfFrom lo' m = true := by
  cases m with
  | nil => rfl
  | cons c rest =>
    obtain ⟨k, v⟩ := c
    simp only [Memory.wfFrom, Bool.and_eq_true, decide_eq_true_eq] at hm ⊢
    exact ⟨⟨⟨by omega, hm.1.1.2⟩, hm.1.2⟩, hm.2⟩

theorem Memory.wfFrom_cons (m : List Host.Cell) (lo k : Nat) (v : Byte) (h1 : lo ≤ k) (h2 : k < Memory.limit)
    (hm : Memory.wfFrom (k + 1) m = true) : Memory.wfFrom lo (Memory.cons k v m) = true := by
  unfold Memory.cons
  split
  · exact Memory.wfFrom_mono m (k + 1) lo (by omega) hm
  · next hv => simp [Memory.wfFrom, h1, h2, hv, hm]

theorem Memory.wfFrom_write (m : List Host.Cell) (lo k : Nat) (v : Byte) (h1 : lo ≤ k) (h2 : k < Memory.limit)
    (hm : Memory.wfFrom lo m = true) : Memory.wfFrom lo (Memory.write m k v) = true := by
  induction m generalizing lo with
  | nil => exact Memory.wfFrom_cons [] lo k v h1 h2 rfl
  | cons c rest ih =>
    obtain ⟨k', v'⟩ := c
    have hall := hm
    simp only [Memory.wfFrom, Bool.and_eq_true, decide_eq_true_eq] at hm
    simp only [Memory.write]
    split
    · next hk =>
      refine Memory.wfFrom_cons _ lo k v h1 h2 ?_
      simp only [Memory.wfFrom, Bool.and_eq_true, decide_eq_true_eq]
      exact ⟨⟨⟨by omega, hm.1.1.2⟩, hm.1.2⟩, hm.2⟩
    · split
      · next hk => subst hk; exact Memory.wfFrom_cons rest lo k v h1 h2 hm.2
      · next hk1 hk2 =>
        simp only [Memory.wfFrom, Bool.and_eq_true, decide_eq_true_eq]
        exact ⟨⟨⟨hm.1.1.1, hm.1.1.2⟩, hm.1.2⟩, ih (k' + 1) (by omega) hm.2⟩

/-- Every write below the limit keeps the canonical form. -/
theorem Memory.wf_write (m : List Host.Cell) (k : Nat) (v : Byte) (h : k < Memory.limit) (hm : Memory.wf m = true) :
    Memory.wf (Memory.write m k v) = true := Memory.wfFrom_write m 0 k v (Nat.zero_le k) h hm

/-- A tabulated memory is in canonical form. -/
theorem Memory.wfFrom_tabulate (f : Nat → Byte) (lo n : Nat) (h : lo + n ≤ Memory.limit) :
    Memory.wfFrom lo (Memory.tabulate f lo n) = true := by
  induction n generalizing lo with
  | zero => rfl
  | succ n ih => exact Memory.wfFrom_cons _ lo lo (f lo) (Nat.le_refl lo) (by omega) (ih (lo + 1) (by omega))

/-- A tabulated memory reads what the table gives. -/
theorem Memory.read_tabulate (f : Nat → Byte) (lo n k : Nat) (h : lo + n ≤ Memory.limit) :
    Memory.read (Memory.tabulate f lo n) k = if lo ≤ k ∧ k < lo + n then f k else Config.unlistedByte := by
  induction n generalizing lo with
  | zero => simp [Memory.tabulate, Memory.read, show ¬ (lo ≤ k ∧ k < lo) by omega]
  | succ n ih =>
    simp only [Memory.tabulate, Memory.read_cons, ih (lo + 1) (by omega)]
    by_cases he : k = lo
    · subst he
      by_cases hv : f k = Config.unlistedByte <;> simp [hv]
    · have hi : (lo + 1 ≤ k ∧ k < lo + 1 + n) ↔ (lo ≤ k ∧ k < lo + (n + 1)) := by omega
      simp only [he, false_and, if_false, hi]

theorem State.logicalKey_lt (s : State) (a : Word) : s.logicalKey a < 0x410000 := by
  unfold State.logicalKey
  have h1 := s.ppage.isLt
  have h2 := a.isLt
  have h3 : a.toNat % 0x4000 < 0x4000 := Nat.mod_lt _ (by decide)
  split <;> omega

theorem State.globalKey_lt (s : State) (ea : Word) : s.globalKey ea < Memory.limit := by
  unfold State.globalKey Memory.limit
  have h1 := s.gpage.isLt
  have h2 := ea.isLt
  omega

theorem State.wf_writeKey (s : State) (k : Nat) (v : Byte) (h : k < Memory.limit) (hm : Memory.wf s.mem = true) :
    Memory.wf (s.writeKey k v).mem = true := by
  unfold State.writeKey
  split
  · exact Memory.wf_write s.mem k v h hm
  · exact Memory.wf_write s.mem k _ h hm
  · exact hm
  · exact hm

/-- A store to a register of another module leaves memory alone. -/
@[simp] theorem State.setPageReg_mem (s : State) (r : PageReg) (v : Byte) : (s.setPageReg r v).mem = s.mem := by
  cases r <;> rfl

@[simp] theorem State.noteStore_mem (s : State) (a : Word) : (s.noteStore a).mem = s.mem := by
  unfold State.noteStore; split <;> rfl

theorem State.wf_writeByte (s : State) (a : Word) (v : Byte) (hm : Memory.wf s.mem = true) :
    Memory.wf (s.writeByte a v).mem = true := by
  unfold State.writeByte
  split
  · simpa using hm
  · simp only [State.noteStore_mem]
    exact s.wf_writeKey _ v (Nat.lt_trans (s.logicalKey_lt a) (by decide)) hm

theorem State.wf_writeWord (s : State) (a v : Word) (hm : Memory.wf s.mem = true) :
    Memory.wf (s.writeWord a v).mem = true := State.wf_writeByte _ _ _ (State.wf_writeByte s a _ hm)

theorem State.wf_globalWriteByte (s : State) (ea : Word) (v : Byte) (hm : Memory.wf s.mem = true) :
    Memory.wf (s.globalWriteByte ea v).mem = true := s.wf_writeKey _ v (s.globalKey_lt ea) hm

theorem State.wf_globalWriteWord (s : State) (ea v : Word) (hm : Memory.wf s.mem = true) :
    Memory.wf (s.globalWriteWord ea v).mem = true :=
  State.wf_globalWriteByte _ _ _ (State.wf_globalWriteByte s ea _ hm)

theorem State.wf_pushByte (s : State) (v : Byte) (hm : Memory.wf s.mem = true) :
    Memory.wf (s.pushByte v).mem = true := State.wf_writeByte _ _ _ hm

theorem State.wf_pushWord (s : State) (v : Word) (hm : Memory.wf s.mem = true) :
    Memory.wf (s.pushWord v).mem = true := State.wf_writeWord _ _ _ hm

theorem State.wf_pushFrame (s : State) (rtn : Word) (hm : Memory.wf s.mem = true) :
    Memory.wf (s.pushFrame rtn).mem = true :=
  State.wf_pushWord _ _ (State.wf_pushWord _ _ (State.wf_pushWord _ _ (State.wf_pushWord _ _ (State.wf_pushWord s rtn hm))))

end Sys2Proof.Machine
end

