-- ==== Sys2Proof/Laws/Ops.lean ====
section
/-! SUPPORT. What the shared operations do, said once: stores, pushes, operand updates, changes of flow, and the frames the
statements are written in. -/

namespace Sys2Proof.Machine

open Sys2Proof.Safety


/-! ## Stores: the fields no store changes -/

@[simp] theorem State.noteStore_a (s : State) (a : Word) : (s.noteStore a).a = s.a := by unfold State.noteStore; split <;> rfl
@[simp] theorem State.noteStore_b (s : State) (a : Word) : (s.noteStore a).b = s.b := by unfold State.noteStore; split <;> rfl
@[simp] theorem State.noteStore_x (s : State) (a : Word) : (s.noteStore a).x = s.x := by unfold State.noteStore; split <;> rfl
@[simp] theorem State.noteStore_y (s : State) (a : Word) : (s.noteStore a).y = s.y := by unfold State.noteStore; split <;> rfl
@[simp] theorem State.noteStore_sp (s : State) (a : Word) : (s.noteStore a).sp = s.sp := by unfold State.noteStore; split <;> rfl
@[simp] theorem State.noteStore_pc (s : State) (a : Word) : (s.noteStore a).pc = s.pc := by unfold State.noteStore; split <;> rfl
@[simp] theorem State.noteStore_ccr (s : State) (a : Word) : (s.noteStore a).ccr = s.ccr := by unfold State.noteStore; split <;> rfl
@[simp] theorem State.noteStore_ipl (s : State) (a : Word) : (s.noteStore a).ipl = s.ipl := by unfold State.noteStore; split <;> rfl
@[simp] theorem State.noteStore_tmp1 (s : State) (a : Word) : (s.noteStore a).tmp1 = s.tmp1 := by unfold State.noteStore; split <;> rfl
@[simp] theorem State.noteStore_tmp2 (s : State) (a : Word) : (s.noteStore a).tmp2 = s.tmp2 := by unfold State.noteStore; split <;> rfl
@[simp] theorem State.noteStore_tmp3 (s : State) (a : Word) : (s.noteStore a).tmp3 = s.tmp3 := by unfold State.noteStore; split <;> rfl
@[simp] theorem State.noteStore_run (s : State) (a : Word) : (s.noteStore a).run = s.run := by unfold State.noteStore; split <;> rfl
@[simp] theorem State.noteStore_iDelay (s : State) (a : Word) : (s.noteStore a).iDelay = s.iDelay := by unfold State.noteStore; split <;> rfl
@[simp] theorem State.noteStore_inputs (s : State) (a : Word) : (s.noteStore a).inputs = s.inputs := by unfold State.noteStore; split <;> rfl
@[simp] theorem State.noteStore_device (s : State) (a : Word) : (s.noteStore a).device = s.device := by unfold State.noteStore; split <;> rfl
@[simp] theorem State.noteStore_free (s : State) (a : Word) : (s.noteStore a).free = s.free := by unfold State.noteStore; split <;> rfl
@[simp] theorem State.noteStore_ppage (s : State) (a : Word) : (s.noteStore a).ppage = s.ppage := by unfold State.noteStore; split <;> rfl
@[simp] theorem State.noteStore_gpage (s : State) (a : Word) : (s.noteStore a).gpage = s.gpage := by unfold State.noteStore; split <;> rfl
@[simp] theorem State.noteStore_direct (s : State) (a : Word) : (s.noteStore a).direct = s.direct := by unfold State.noteStore; split <;> rfl
@[simp] theorem State.noteStore_vb (s : State) (a : Word) : (s.noteStore a).vb = s.vb := by unfold State.noteStore; split <;> rfl
@[simp] theorem State.setPageReg_a (s : State) (r : PageReg) (v : Byte) : (s.setPageReg r v).a = s.a := by cases r <;> rfl
@[simp] theorem State.setPageReg_b (s : State) (r : PageReg) (v : Byte) : (s.setPageReg r v).b = s.b := by cases r <;> rfl
@[simp] theorem State.setPageReg_x (s : State) (r : PageReg) (v : Byte) : (s.setPageReg r v).x = s.x := by cases r <;> rfl
@[simp] theorem State.setPageReg_y (s : State) (r : PageReg) (v : Byte) : (s.setPageReg r v).y = s.y := by cases r <;> rfl
@[simp] theorem State.setPageReg_sp (s : State) (r : PageReg) (v : Byte) : (s.setPageReg r v).sp = s.sp := by cases r <;> rfl
@[simp] theorem State.setPageReg_pc (s : State) (r : PageReg) (v : Byte) : (s.setPageReg r v).pc = s.pc := by cases r <;> rfl
@[simp] theorem State.setPageReg_ccr (s : State) (r : PageReg) (v : Byte) : (s.setPageReg r v).ccr = s.ccr := by cases r <;> rfl
@[simp] theorem State.setPageReg_ipl (s : State) (r : PageReg) (v : Byte) : (s.setPageReg r v).ipl = s.ipl := by cases r <;> rfl
@[simp] theorem State.setPageReg_tmp1 (s : State) (r : PageReg) (v : Byte) : (s.setPageReg r v).tmp1 = s.tmp1 := by cases r <;> rfl
@[simp] theorem State.setPageReg_tmp2 (s : State) (r : PageReg) (v : Byte) : (s.setPageReg r v).tmp2 = s.tmp2 := by cases r <;> rfl
@[simp] theorem State.setPageReg_tmp3 (s : State) (r : PageReg) (v : Byte) : (s.setPageReg r v).tmp3 = s.tmp3 := by cases r <;> rfl
@[simp] theorem State.setPageReg_run (s : State) (r : PageReg) (v : Byte) : (s.setPageReg r v).run = s.run := by cases r <;> rfl
@[simp] theorem State.setPageReg_iDelay (s : State) (r : PageReg) (v : Byte) : (s.setPageReg r v).iDelay = s.iDelay := by cases r <;> rfl
@[simp] theorem State.setPageReg_inputs (s : State) (r : PageReg) (v : Byte) : (s.setPageReg r v).inputs = s.inputs := by cases r <;> rfl
@[simp] theorem State.setPageReg_device (s : State) (r : PageReg) (v : Byte) : (s.setPageReg r v).device = s.device := by cases r <;> rfl
@[simp] theorem State.setPageReg_free (s : State) (r : PageReg) (v : Byte) : (s.setPageReg r v).free = s.free := by cases r <;> rfl
@[simp] theorem State.writeKey_a (s : State) (k : Nat) (v : Byte) : (s.writeKey k v).a = s.a := by unfold State.writeKey; split <;> rfl
@[simp] theorem State.writeKey_b (s : State) (k : Nat) (v : Byte) : (s.writeKey k v).b = s.b := by unfold State.writeKey; split <;> rfl
@[simp] theorem State.writeKey_x (s : State) (k : Nat) (v : Byte) : (s.writeKey k v).x = s.x := by unfold State.writeKey; split <;> rfl
@[simp] theorem State.writeKey_y (s : State) (k : Nat) (v : Byte) : (s.writeKey k v).y = s.y := by unfold State.writeKey; split <;> rfl
@[simp] theorem State.writeKey_sp (s : State) (k : Nat) (v : Byte) : (s.writeKey k v).sp = s.sp := by unfold State.writeKey; split <;> rfl
@[simp] theorem State.writeKey_pc (s : State) (k : Nat) (v : Byte) : (s.writeKey k v).pc = s.pc := by unfold State.writeKey; split <;> rfl
@[simp] theorem State.writeKey_ccr (s : State) (k : Nat) (v : Byte) : (s.writeKey k v).ccr = s.ccr := by unfold State.writeKey; split <;> rfl
@[simp] theorem State.writeKey_ipl (s : State) (k : Nat) (v : Byte) : (s.writeKey k v).ipl = s.ipl := by unfold State.writeKey; split <;> rfl
@[simp] theorem State.writeKey_tmp1 (s : State) (k : Nat) (v : Byte) : (s.writeKey k v).tmp1 = s.tmp1 := by unfold State.writeKey; split <;> rfl
@[simp] theorem State.writeKey_tmp2 (s : State) (k : Nat) (v : Byte) : (s.writeKey k v).tmp2 = s.tmp2 := by unfold State.writeKey; split <;> rfl
@[simp] theorem State.writeKey_tmp3 (s : State) (k : Nat) (v : Byte) : (s.writeKey k v).tmp3 = s.tmp3 := by unfold State.writeKey; split <;> rfl
@[simp] theorem State.writeKey_run (s : State) (k : Nat) (v : Byte) : (s.writeKey k v).run = s.run := by unfold State.writeKey; split <;> rfl
@[simp] theorem State.writeKey_iDelay (s : State) (k : Nat) (v : Byte) : (s.writeKey k v).iDelay = s.iDelay := by unfold State.writeKey; split <;> rfl
@[simp] theorem State.writeKey_inputs (s : State) (k : Nat) (v : Byte) : (s.writeKey k v).inputs = s.inputs := by unfold State.writeKey; split <;> rfl
@[simp] theorem State.writeKey_device (s : State) (k : Nat) (v : Byte) : (s.writeKey k v).device = s.device := by unfold State.writeKey; split <;> rfl
@[simp] theorem State.writeKey_free (s : State) (k : Nat) (v : Byte) : (s.writeKey k v).free = s.free := by unfold State.writeKey; split <;> rfl
@[simp] theorem State.writeKey_ppage (s : State) (k : Nat) (v : Byte) : (s.writeKey k v).ppage = s.ppage := by unfold State.writeKey; split <;> rfl
@[simp] theorem State.writeKey_gpage (s : State) (k : Nat) (v : Byte) : (s.writeKey k v).gpage = s.gpage := by unfold State.writeKey; split <;> rfl
@[simp] theorem State.writeKey_direct (s : State) (k : Nat) (v : Byte) : (s.writeKey k v).direct = s.direct := by unfold State.writeKey; split <;> rfl
@[simp] theorem State.writeKey_vb (s : State) (k : Nat) (v : Byte) : (s.writeKey k v).vb = s.vb := by unfold State.writeKey; split <;> rfl
@[simp] theorem State.writeKey_stale (s : State) (k : Nat) (v : Byte) : (s.writeKey k v).stale = s.stale := by unfold State.writeKey; split <;> rfl
@[simp] theorem State.writeByte_a (s : State) (a : Word) (v : Byte) : (s.writeByte a v).a = s.a := by unfold State.writeByte; split <;> simp
@[simp] theorem State.writeByte_b (s : State) (a : Word) (v : Byte) : (s.writeByte a v).b = s.b := by unfold State.writeByte; split <;> simp
@[simp] theorem State.writeByte_x (s : State) (a : Word) (v : Byte) : (s.writeByte a v).x = s.x := by unfold State.writeByte; split <;> simp
@[simp] theorem State.writeByte_y (s : State) (a : Word) (v : Byte) : (s.writeByte a v).y = s.y := by unfold State.writeByte; split <;> simp
@[simp] theorem State.writeByte_sp (s : State) (a : Word) (v : Byte) : (s.writeByte a v).sp = s.sp := by unfold State.writeByte; split <;> simp
@[simp] theorem State.writeByte_pc (s : State) (a : Word) (v : Byte) : (s.writeByte a v).pc = s.pc := by unfold State.writeByte; split <;> simp
@[simp] theorem State.writeByte_ccr (s : State) (a : Word) (v : Byte) : (s.writeByte a v).ccr = s.ccr := by unfold State.writeByte; split <;> simp
@[simp] theorem State.writeByte_ipl (s : State) (a : Word) (v : Byte) : (s.writeByte a v).ipl = s.ipl := by unfold State.writeByte; split <;> simp
@[simp] theorem State.writeByte_tmp1 (s : State) (a : Word) (v : Byte) : (s.writeByte a v).tmp1 = s.tmp1 := by unfold State.writeByte; split <;> simp
@[simp] theorem State.writeByte_tmp2 (s : State) (a : Word) (v : Byte) : (s.writeByte a v).tmp2 = s.tmp2 := by unfold State.writeByte; split <;> simp
@[simp] theorem State.writeByte_tmp3 (s : State) (a : Word) (v : Byte) : (s.writeByte a v).tmp3 = s.tmp3 := by unfold State.writeByte; split <;> simp
@[simp] theorem State.writeByte_run (s : State) (a : Word) (v : Byte) : (s.writeByte a v).run = s.run := by unfold State.writeByte; split <;> simp
@[simp] theorem State.writeByte_iDelay (s : State) (a : Word) (v : Byte) : (s.writeByte a v).iDelay = s.iDelay := by unfold State.writeByte; split <;> simp
@[simp] theorem State.writeByte_inputs (s : State) (a : Word) (v : Byte) : (s.writeByte a v).inputs = s.inputs := by unfold State.writeByte; split <;> simp
@[simp] theorem State.writeByte_device (s : State) (a : Word) (v : Byte) : (s.writeByte a v).device = s.device := by unfold State.writeByte; split <;> simp
@[simp] theorem State.writeByte_free (s : State) (a : Word) (v : Byte) : (s.writeByte a v).free = s.free := by unfold State.writeByte; split <;> simp
@[simp] theorem State.writeWord_a (s : State) (a v : Word) : (s.writeWord a v).a = s.a := by simp [State.writeWord]
@[simp] theorem State.writeWord_b (s : State) (a v : Word) : (s.writeWord a v).b = s.b := by simp [State.writeWord]
@[simp] theorem State.writeWord_x (s : State) (a v : Word) : (s.writeWord a v).x = s.x := by simp [State.writeWord]
@[simp] theorem State.writeWord_y (s : State) (a v : Word) : (s.writeWord a v).y = s.y := by simp [State.writeWord]
@[simp] theorem State.writeWord_sp (s : State) (a v : Word) : (s.writeWord a v).sp = s.sp := by simp [State.writeWord]
@[simp] theorem State.writeWord_pc (s : State) (a v : Word) : (s.writeWord a v).pc = s.pc := by simp [State.writeWord]
@[simp] theorem State.writeWord_ccr (s : State) (a v : Word) : (s.writeWord a v).ccr = s.ccr := by simp [State.writeWord]
@[simp] theorem State.writeWord_ipl (s : State) (a v : Word) : (s.writeWord a v).ipl = s.ipl := by simp [State.writeWord]
@[simp] theorem State.writeWord_tmp1 (s : State) (a v : Word) : (s.writeWord a v).tmp1 = s.tmp1 := by simp [State.writeWord]
@[simp] theorem State.writeWord_tmp2 (s : State) (a v : Word) : (s.writeWord a v).tmp2 = s.tmp2 := by simp [State.writeWord]
@[simp] theorem State.writeWord_tmp3 (s : State) (a v : Word) : (s.writeWord a v).tmp3 = s.tmp3 := by simp [State.writeWord]
@[simp] theorem State.writeWord_run (s : State) (a v : Word) : (s.writeWord a v).run = s.run := by simp [State.writeWord]
@[simp] theorem State.writeWord_iDelay (s : State) (a v : Word) : (s.writeWord a v).iDelay = s.iDelay := by simp [State.writeWord]
@[simp] theorem State.writeWord_inputs (s : State) (a v : Word) : (s.writeWord a v).inputs = s.inputs := by simp [State.writeWord]
@[simp] theorem State.writeWord_device (s : State) (a v : Word) : (s.writeWord a v).device = s.device := by simp [State.writeWord]
@[simp] theorem State.writeWord_free (s : State) (a v : Word) : (s.writeWord a v).free = s.free := by simp [State.writeWord]
@[simp] theorem State.globalWriteByte_a (s : State) (ea : Word) (v : Byte) : (s.globalWriteByte ea v).a = s.a := by simp [State.globalWriteByte]
@[simp] theorem State.globalWriteByte_b (s : State) (ea : Word) (v : Byte) : (s.globalWriteByte ea v).b = s.b := by simp [State.globalWriteByte]
@[simp] theorem State.globalWriteByte_x (s : State) (ea : Word) (v : Byte) : (s.globalWriteByte ea v).x = s.x := by simp [State.globalWriteByte]
@[simp] theorem State.globalWriteByte_y (s : State) (ea : Word) (v : Byte) : (s.globalWriteByte ea v).y = s.y := by simp [State.globalWriteByte]
@[simp] theorem State.globalWriteByte_sp (s : State) (ea : Word) (v : Byte) : (s.globalWriteByte ea v).sp = s.sp := by simp [State.globalWriteByte]
@[simp] theorem State.globalWriteByte_pc (s : State) (ea : Word) (v : Byte) : (s.globalWriteByte ea v).pc = s.pc := by simp [State.globalWriteByte]
@[simp] theorem State.globalWriteByte_ccr (s : State) (ea : Word) (v : Byte) : (s.globalWriteByte ea v).ccr = s.ccr := by simp [State.globalWriteByte]
@[simp] theorem State.globalWriteByte_ipl (s : State) (ea : Word) (v : Byte) : (s.globalWriteByte ea v).ipl = s.ipl := by simp [State.globalWriteByte]
@[simp] theorem State.globalWriteByte_tmp1 (s : State) (ea : Word) (v : Byte) : (s.globalWriteByte ea v).tmp1 = s.tmp1 := by simp [State.globalWriteByte]
@[simp] theorem State.globalWriteByte_tmp2 (s : State) (ea : Word) (v : Byte) : (s.globalWriteByte ea v).tmp2 = s.tmp2 := by simp [State.globalWriteByte]
@[simp] theorem State.globalWriteByte_tmp3 (s : State) (ea : Word) (v : Byte) : (s.globalWriteByte ea v).tmp3 = s.tmp3 := by simp [State.globalWriteByte]
@[simp] theorem State.globalWriteByte_run (s : State) (ea : Word) (v : Byte) : (s.globalWriteByte ea v).run = s.run := by simp [State.globalWriteByte]
@[simp] theorem State.globalWriteByte_iDelay (s : State) (ea : Word) (v : Byte) : (s.globalWriteByte ea v).iDelay = s.iDelay := by simp [State.globalWriteByte]
@[simp] theorem State.globalWriteByte_inputs (s : State) (ea : Word) (v : Byte) : (s.globalWriteByte ea v).inputs = s.inputs := by simp [State.globalWriteByte]
@[simp] theorem State.globalWriteByte_device (s : State) (ea : Word) (v : Byte) : (s.globalWriteByte ea v).device = s.device := by simp [State.globalWriteByte]
@[simp] theorem State.globalWriteByte_free (s : State) (ea : Word) (v : Byte) : (s.globalWriteByte ea v).free = s.free := by simp [State.globalWriteByte]
@[simp] theorem State.globalWriteByte_ppage (s : State) (ea : Word) (v : Byte) : (s.globalWriteByte ea v).ppage = s.ppage := by simp [State.globalWriteByte]
@[simp] theorem State.globalWriteByte_gpage (s : State) (ea : Word) (v : Byte) : (s.globalWriteByte ea v).gpage = s.gpage := by simp [State.globalWriteByte]
@[simp] theorem State.globalWriteByte_direct (s : State) (ea : Word) (v : Byte) : (s.globalWriteByte ea v).direct = s.direct := by simp [State.globalWriteByte]
@[simp] theorem State.globalWriteByte_vb (s : State) (ea : Word) (v : Byte) : (s.globalWriteByte ea v).vb = s.vb := by simp [State.globalWriteByte]
@[simp] theorem State.globalWriteByte_stale (s : State) (ea : Word) (v : Byte) : (s.globalWriteByte ea v).stale = s.stale := by simp [State.globalWriteByte]
@[simp] theorem State.globalWriteWord_a (s : State) (ea v : Word) : (s.globalWriteWord ea v).a = s.a := by simp [State.globalWriteWord]
@[simp] theorem State.globalWriteWord_b (s : State) (ea v : Word) : (s.globalWriteWord ea v).b = s.b := by simp [State.globalWriteWord]
@[simp] theorem State.globalWriteWord_x (s : State) (ea v : Word) : (s.globalWriteWord ea v).x = s.x := by simp [State.globalWriteWord]
@[simp] theorem State.globalWriteWord_y (s : State) (ea v : Word) : (s.globalWriteWord ea v).y = s.y := by simp [State.globalWriteWord]
@[simp] theorem State.globalWriteWord_sp (s : State) (ea v : Word) : (s.globalWriteWord ea v).sp = s.sp := by simp [State.globalWriteWord]
@[simp] theorem State.globalWriteWord_pc (s : State) (ea v : Word) : (s.globalWriteWord ea v).pc = s.pc := by simp [State.globalWriteWord]
@[simp] theorem State.globalWriteWord_ccr (s : State) (ea v : Word) : (s.globalWriteWord ea v).ccr = s.ccr := by simp [State.globalWriteWord]
@[simp] theorem State.globalWriteWord_ipl (s : State) (ea v : Word) : (s.globalWriteWord ea v).ipl = s.ipl := by simp [State.globalWriteWord]
@[simp] theorem State.globalWriteWord_tmp1 (s : State) (ea v : Word) : (s.globalWriteWord ea v).tmp1 = s.tmp1 := by simp [State.globalWriteWord]
@[simp] theorem State.globalWriteWord_tmp2 (s : State) (ea v : Word) : (s.globalWriteWord ea v).tmp2 = s.tmp2 := by simp [State.globalWriteWord]
@[simp] theorem State.globalWriteWord_tmp3 (s : State) (ea v : Word) : (s.globalWriteWord ea v).tmp3 = s.tmp3 := by simp [State.globalWriteWord]
@[simp] theorem State.globalWriteWord_run (s : State) (ea v : Word) : (s.globalWriteWord ea v).run = s.run := by simp [State.globalWriteWord]
@[simp] theorem State.globalWriteWord_iDelay (s : State) (ea v : Word) : (s.globalWriteWord ea v).iDelay = s.iDelay := by simp [State.globalWriteWord]
@[simp] theorem State.globalWriteWord_inputs (s : State) (ea v : Word) : (s.globalWriteWord ea v).inputs = s.inputs := by simp [State.globalWriteWord]
@[simp] theorem State.globalWriteWord_device (s : State) (ea v : Word) : (s.globalWriteWord ea v).device = s.device := by simp [State.globalWriteWord]
@[simp] theorem State.globalWriteWord_free (s : State) (ea v : Word) : (s.globalWriteWord ea v).free = s.free := by simp [State.globalWriteWord]
@[simp] theorem State.globalWriteWord_ppage (s : State) (ea v : Word) : (s.globalWriteWord ea v).ppage = s.ppage := by simp [State.globalWriteWord]
@[simp] theorem State.globalWriteWord_gpage (s : State) (ea v : Word) : (s.globalWriteWord ea v).gpage = s.gpage := by simp [State.globalWriteWord]
@[simp] theorem State.globalWriteWord_direct (s : State) (ea v : Word) : (s.globalWriteWord ea v).direct = s.direct := by simp [State.globalWriteWord]
@[simp] theorem State.globalWriteWord_vb (s : State) (ea v : Word) : (s.globalWriteWord ea v).vb = s.vb := by simp [State.globalWriteWord]
@[simp] theorem State.globalWriteWord_stale (s : State) (ea v : Word) : (s.globalWriteWord ea v).stale = s.stale := by simp [State.globalWriteWord]
@[simp] theorem State.pushByte_a (s : State) (v : Byte) : (s.pushByte v).a = s.a := by simp [State.pushByte]
@[simp] theorem State.pushWord_a (s : State) (v : Word) : (s.pushWord v).a = s.a := by simp [State.pushWord]
@[simp] theorem State.pushFrame_a (s : State) (v : Word) : (s.pushFrame v).a = s.a := by simp [State.pushFrame]
@[simp] theorem State.pushByte_b (s : State) (v : Byte) : (s.pushByte v).b = s.b := by simp [State.pushByte]
@[simp] theorem State.pushWord_b (s : State) (v : Word) : (s.pushWord v).b = s.b := by simp [State.pushWord]
@[simp] theorem State.pushFrame_b (s : State) (v : Word) : (s.pushFrame v).b = s.b := by simp [State.pushFrame]
@[simp] theorem State.pushByte_x (s : State) (v : Byte) : (s.pushByte v).x = s.x := by simp [State.pushByte]
@[simp] theorem State.pushWord_x (s : State) (v : Word) : (s.pushWord v).x = s.x := by simp [State.pushWord]
@[simp] theorem State.pushFrame_x (s : State) (v : Word) : (s.pushFrame v).x = s.x := by simp [State.pushFrame]
@[simp] theorem State.pushByte_y (s : State) (v : Byte) : (s.pushByte v).y = s.y := by simp [State.pushByte]
@[simp] theorem State.pushWord_y (s : State) (v : Word) : (s.pushWord v).y = s.y := by simp [State.pushWord]
@[simp] theorem State.pushFrame_y (s : State) (v : Word) : (s.pushFrame v).y = s.y := by simp [State.pushFrame]
@[simp] theorem State.pushByte_pc (s : State) (v : Byte) : (s.pushByte v).pc = s.pc := by simp [State.pushByte]
@[simp] theorem State.pushWord_pc (s : State) (v : Word) : (s.pushWord v).pc = s.pc := by simp [State.pushWord]
@[simp] theorem State.pushFrame_pc (s : State) (v : Word) : (s.pushFrame v).pc = s.pc := by simp [State.pushFrame]
@[simp] theorem State.pushByte_ccr (s : State) (v : Byte) : (s.pushByte v).ccr = s.ccr := by simp [State.pushByte]
@[simp] theorem State.pushWord_ccr (s : State) (v : Word) : (s.pushWord v).ccr = s.ccr := by simp [State.pushWord]
@[simp] theorem State.pushFrame_ccr (s : State) (v : Word) : (s.pushFrame v).ccr = s.ccr := by simp [State.pushFrame]
@[simp] theorem State.pushByte_ipl (s : State) (v : Byte) : (s.pushByte v).ipl = s.ipl := by simp [State.pushByte]
@[simp] theorem State.pushWord_ipl (s : State) (v : Word) : (s.pushWord v).ipl = s.ipl := by simp [State.pushWord]
@[simp] theorem State.pushFrame_ipl (s : State) (v : Word) : (s.pushFrame v).ipl = s.ipl := by simp [State.pushFrame]
@[simp] theorem State.pushByte_tmp1 (s : State) (v : Byte) : (s.pushByte v).tmp1 = s.tmp1 := by simp [State.pushByte]
@[simp] theorem State.pushWord_tmp1 (s : State) (v : Word) : (s.pushWord v).tmp1 = s.tmp1 := by simp [State.pushWord]
@[simp] theorem State.pushFrame_tmp1 (s : State) (v : Word) : (s.pushFrame v).tmp1 = s.tmp1 := by simp [State.pushFrame]
@[simp] theorem State.pushByte_tmp2 (s : State) (v : Byte) : (s.pushByte v).tmp2 = s.tmp2 := by simp [State.pushByte]
@[simp] theorem State.pushWord_tmp2 (s : State) (v : Word) : (s.pushWord v).tmp2 = s.tmp2 := by simp [State.pushWord]
@[simp] theorem State.pushFrame_tmp2 (s : State) (v : Word) : (s.pushFrame v).tmp2 = s.tmp2 := by simp [State.pushFrame]
@[simp] theorem State.pushByte_tmp3 (s : State) (v : Byte) : (s.pushByte v).tmp3 = s.tmp3 := by simp [State.pushByte]
@[simp] theorem State.pushWord_tmp3 (s : State) (v : Word) : (s.pushWord v).tmp3 = s.tmp3 := by simp [State.pushWord]
@[simp] theorem State.pushFrame_tmp3 (s : State) (v : Word) : (s.pushFrame v).tmp3 = s.tmp3 := by simp [State.pushFrame]
@[simp] theorem State.pushByte_run (s : State) (v : Byte) : (s.pushByte v).run = s.run := by simp [State.pushByte]
@[simp] theorem State.pushWord_run (s : State) (v : Word) : (s.pushWord v).run = s.run := by simp [State.pushWord]
@[simp] theorem State.pushFrame_run (s : State) (v : Word) : (s.pushFrame v).run = s.run := by simp [State.pushFrame]
@[simp] theorem State.pushByte_iDelay (s : State) (v : Byte) : (s.pushByte v).iDelay = s.iDelay := by simp [State.pushByte]
@[simp] theorem State.pushWord_iDelay (s : State) (v : Word) : (s.pushWord v).iDelay = s.iDelay := by simp [State.pushWord]
@[simp] theorem State.pushFrame_iDelay (s : State) (v : Word) : (s.pushFrame v).iDelay = s.iDelay := by simp [State.pushFrame]
@[simp] theorem State.pushByte_inputs (s : State) (v : Byte) : (s.pushByte v).inputs = s.inputs := by simp [State.pushByte]
@[simp] theorem State.pushWord_inputs (s : State) (v : Word) : (s.pushWord v).inputs = s.inputs := by simp [State.pushWord]
@[simp] theorem State.pushFrame_inputs (s : State) (v : Word) : (s.pushFrame v).inputs = s.inputs := by simp [State.pushFrame]
@[simp] theorem State.pushByte_device (s : State) (v : Byte) : (s.pushByte v).device = s.device := by simp [State.pushByte]
@[simp] theorem State.pushWord_device (s : State) (v : Word) : (s.pushWord v).device = s.device := by simp [State.pushWord]
@[simp] theorem State.pushFrame_device (s : State) (v : Word) : (s.pushFrame v).device = s.device := by simp [State.pushFrame]
@[simp] theorem State.pushByte_free (s : State) (v : Byte) : (s.pushByte v).free = s.free := by simp [State.pushByte]
@[simp] theorem State.pushWord_free (s : State) (v : Word) : (s.pushWord v).free = s.free := by simp [State.pushWord]
@[simp] theorem State.pushFrame_free (s : State) (v : Word) : (s.pushFrame v).free = s.free := by simp [State.pushFrame]
@[simp] theorem State.pushByte_sp (s : State) (v : Byte) : (s.pushByte v).sp = s.sp - 1 := by simp [State.pushByte]
@[simp] theorem State.pushWord_sp (s : State) (v : Word) : (s.pushWord v).sp = s.sp - 2 := by simp [State.pushWord]
@[simp] theorem State.pushFrame_sp (s : State) (v : Word) : (s.pushFrame v).sp = s.sp - 10 := by
  simp [State.pushFrame]; bv_omega

/-! ## Operands: an address updates its own index register at most -/

@[simp] theorem State.setAutoReg_a (s : State) (r : AutoReg) (v : Word) : (s.setAutoReg r v).a = s.a := by cases r <;> rfl
@[simp] theorem State.setAutoReg_b (s : State) (r : AutoReg) (v : Word) : (s.setAutoReg r v).b = s.b := by cases r <;> rfl
@[simp] theorem State.setAutoReg_pc (s : State) (r : AutoReg) (v : Word) : (s.setAutoReg r v).pc = s.pc := by cases r <;> rfl
@[simp] theorem State.setAutoReg_ccr (s : State) (r : AutoReg) (v : Word) : (s.setAutoReg r v).ccr = s.ccr := by cases r <;> rfl
@[simp] theorem State.setAutoReg_ipl (s : State) (r : AutoReg) (v : Word) : (s.setAutoReg r v).ipl = s.ipl := by cases r <;> rfl
@[simp] theorem State.setAutoReg_tmp1 (s : State) (r : AutoReg) (v : Word) : (s.setAutoReg r v).tmp1 = s.tmp1 := by cases r <;> rfl
@[simp] theorem State.setAutoReg_tmp2 (s : State) (r : AutoReg) (v : Word) : (s.setAutoReg r v).tmp2 = s.tmp2 := by cases r <;> rfl
@[simp] theorem State.setAutoReg_tmp3 (s : State) (r : AutoReg) (v : Word) : (s.setAutoReg r v).tmp3 = s.tmp3 := by cases r <;> rfl
@[simp] theorem State.setAutoReg_run (s : State) (r : AutoReg) (v : Word) : (s.setAutoReg r v).run = s.run := by cases r <;> rfl
@[simp] theorem State.setAutoReg_iDelay (s : State) (r : AutoReg) (v : Word) : (s.setAutoReg r v).iDelay = s.iDelay := by cases r <;> rfl
@[simp] theorem State.setAutoReg_inputs (s : State) (r : AutoReg) (v : Word) : (s.setAutoReg r v).inputs = s.inputs := by cases r <;> rfl
@[simp] theorem State.setAutoReg_device (s : State) (r : AutoReg) (v : Word) : (s.setAutoReg r v).device = s.device := by cases r <;> rfl
@[simp] theorem State.setAutoReg_free (s : State) (r : AutoReg) (v : Word) : (s.setAutoReg r v).free = s.free := by cases r <;> rfl
@[simp] theorem State.setAutoReg_ppage (s : State) (r : AutoReg) (v : Word) : (s.setAutoReg r v).ppage = s.ppage := by cases r <;> rfl
@[simp] theorem State.setAutoReg_gpage (s : State) (r : AutoReg) (v : Word) : (s.setAutoReg r v).gpage = s.gpage := by cases r <;> rfl
@[simp] theorem State.setAutoReg_direct (s : State) (r : AutoReg) (v : Word) : (s.setAutoReg r v).direct = s.direct := by cases r <;> rfl
@[simp] theorem State.setAutoReg_vb (s : State) (r : AutoReg) (v : Word) : (s.setAutoReg r v).vb = s.vb := by cases r <;> rfl
@[simp] theorem State.setAutoReg_stale (s : State) (r : AutoReg) (v : Word) : (s.setAutoReg r v).stale = s.stale := by cases r <;> rfl
@[simp] theorem State.setAutoReg_mem (s : State) (r : AutoReg) (v : Word) : (s.setAutoReg r v).mem = s.mem := by cases r <;> rfl
@[simp] theorem IdxUpdate_a (i : Sys2Proof.Idx) (s : State) : (i.update s).a = s.a := by cases i <;> simp [Sys2Proof.Idx.update]
@[simp] theorem IdxUpdate_b (i : Sys2Proof.Idx) (s : State) : (i.update s).b = s.b := by cases i <;> simp [Sys2Proof.Idx.update]
@[simp] theorem IdxUpdate_pc (i : Sys2Proof.Idx) (s : State) : (i.update s).pc = s.pc := by cases i <;> simp [Sys2Proof.Idx.update]
@[simp] theorem IdxUpdate_ccr (i : Sys2Proof.Idx) (s : State) : (i.update s).ccr = s.ccr := by cases i <;> simp [Sys2Proof.Idx.update]
@[simp] theorem IdxUpdate_ipl (i : Sys2Proof.Idx) (s : State) : (i.update s).ipl = s.ipl := by cases i <;> simp [Sys2Proof.Idx.update]
@[simp] theorem IdxUpdate_tmp1 (i : Sys2Proof.Idx) (s : State) : (i.update s).tmp1 = s.tmp1 := by cases i <;> simp [Sys2Proof.Idx.update]
@[simp] theorem IdxUpdate_tmp2 (i : Sys2Proof.Idx) (s : State) : (i.update s).tmp2 = s.tmp2 := by cases i <;> simp [Sys2Proof.Idx.update]
@[simp] theorem IdxUpdate_tmp3 (i : Sys2Proof.Idx) (s : State) : (i.update s).tmp3 = s.tmp3 := by cases i <;> simp [Sys2Proof.Idx.update]
@[simp] theorem IdxUpdate_run (i : Sys2Proof.Idx) (s : State) : (i.update s).run = s.run := by cases i <;> simp [Sys2Proof.Idx.update]
@[simp] theorem IdxUpdate_iDelay (i : Sys2Proof.Idx) (s : State) : (i.update s).iDelay = s.iDelay := by cases i <;> simp [Sys2Proof.Idx.update]
@[simp] theorem IdxUpdate_inputs (i : Sys2Proof.Idx) (s : State) : (i.update s).inputs = s.inputs := by cases i <;> simp [Sys2Proof.Idx.update]
@[simp] theorem IdxUpdate_device (i : Sys2Proof.Idx) (s : State) : (i.update s).device = s.device := by cases i <;> simp [Sys2Proof.Idx.update]
@[simp] theorem IdxUpdate_free (i : Sys2Proof.Idx) (s : State) : (i.update s).free = s.free := by cases i <;> simp [Sys2Proof.Idx.update]
@[simp] theorem IdxUpdate_ppage (i : Sys2Proof.Idx) (s : State) : (i.update s).ppage = s.ppage := by cases i <;> simp [Sys2Proof.Idx.update]
@[simp] theorem IdxUpdate_gpage (i : Sys2Proof.Idx) (s : State) : (i.update s).gpage = s.gpage := by cases i <;> simp [Sys2Proof.Idx.update]
@[simp] theorem IdxUpdate_direct (i : Sys2Proof.Idx) (s : State) : (i.update s).direct = s.direct := by cases i <;> simp [Sys2Proof.Idx.update]
@[simp] theorem IdxUpdate_vb (i : Sys2Proof.Idx) (s : State) : (i.update s).vb = s.vb := by cases i <;> simp [Sys2Proof.Idx.update]
@[simp] theorem IdxUpdate_stale (i : Sys2Proof.Idx) (s : State) : (i.update s).stale = s.stale := by cases i <;> simp [Sys2Proof.Idx.update]
@[simp] theorem IdxUpdate_mem (i : Sys2Proof.Idx) (s : State) : (i.update s).mem = s.mem := by cases i <;> simp [Sys2Proof.Idx.update]
@[simp] theorem EaUpdate_a (i : Sys2Proof.Ea) (s : State) : (i.update s).a = s.a := by cases i <;> simp [Sys2Proof.Ea.update]
@[simp] theorem EaUpdate_b (i : Sys2Proof.Ea) (s : State) : (i.update s).b = s.b := by cases i <;> simp [Sys2Proof.Ea.update]
@[simp] theorem EaUpdate_pc (i : Sys2Proof.Ea) (s : State) : (i.update s).pc = s.pc := by cases i <;> simp [Sys2Proof.Ea.update]
@[simp] theorem EaUpdate_ccr (i : Sys2Proof.Ea) (s : State) : (i.update s).ccr = s.ccr := by cases i <;> simp [Sys2Proof.Ea.update]
@[simp] theorem EaUpdate_ipl (i : Sys2Proof.Ea) (s : State) : (i.update s).ipl = s.ipl := by cases i <;> simp [Sys2Proof.Ea.update]
@[simp] theorem EaUpdate_tmp1 (i : Sys2Proof.Ea) (s : State) : (i.update s).tmp1 = s.tmp1 := by cases i <;> simp [Sys2Proof.Ea.update]
@[simp] theorem EaUpdate_tmp2 (i : Sys2Proof.Ea) (s : State) : (i.update s).tmp2 = s.tmp2 := by cases i <;> simp [Sys2Proof.Ea.update]
@[simp] theorem EaUpdate_tmp3 (i : Sys2Proof.Ea) (s : State) : (i.update s).tmp3 = s.tmp3 := by cases i <;> simp [Sys2Proof.Ea.update]
@[simp] theorem EaUpdate_run (i : Sys2Proof.Ea) (s : State) : (i.update s).run = s.run := by cases i <;> simp [Sys2Proof.Ea.update]
@[simp] theorem EaUpdate_iDelay (i : Sys2Proof.Ea) (s : State) : (i.update s).iDelay = s.iDelay := by cases i <;> simp [Sys2Proof.Ea.update]
@[simp] theorem EaUpdate_inputs (i : Sys2Proof.Ea) (s : State) : (i.update s).inputs = s.inputs := by cases i <;> simp [Sys2Proof.Ea.update]
@[simp] theorem EaUpdate_device (i : Sys2Proof.Ea) (s : State) : (i.update s).device = s.device := by cases i <;> simp [Sys2Proof.Ea.update]
@[simp] theorem EaUpdate_free (i : Sys2Proof.Ea) (s : State) : (i.update s).free = s.free := by cases i <;> simp [Sys2Proof.Ea.update]
@[simp] theorem EaUpdate_ppage (i : Sys2Proof.Ea) (s : State) : (i.update s).ppage = s.ppage := by cases i <;> simp [Sys2Proof.Ea.update]
@[simp] theorem EaUpdate_gpage (i : Sys2Proof.Ea) (s : State) : (i.update s).gpage = s.gpage := by cases i <;> simp [Sys2Proof.Ea.update]
@[simp] theorem EaUpdate_direct (i : Sys2Proof.Ea) (s : State) : (i.update s).direct = s.direct := by cases i <;> simp [Sys2Proof.Ea.update]
@[simp] theorem EaUpdate_vb (i : Sys2Proof.Ea) (s : State) : (i.update s).vb = s.vb := by cases i <;> simp [Sys2Proof.Ea.update]
@[simp] theorem EaUpdate_stale (i : Sys2Proof.Ea) (s : State) : (i.update s).stale = s.stale := by cases i <;> simp [Sys2Proof.Ea.update]
@[simp] theorem EaUpdate_mem (i : Sys2Proof.Ea) (s : State) : (i.update s).mem = s.mem := by cases i <;> simp [Sys2Proof.Ea.update]
@[simp] theorem XeaUpdate_a (i : Sys2Proof.Xea) (s : State) : (i.update s).a = s.a := by cases i <;> simp [Sys2Proof.Xea.update]
@[simp] theorem XeaUpdate_b (i : Sys2Proof.Xea) (s : State) : (i.update s).b = s.b := by cases i <;> simp [Sys2Proof.Xea.update]
@[simp] theorem XeaUpdate_pc (i : Sys2Proof.Xea) (s : State) : (i.update s).pc = s.pc := by cases i <;> simp [Sys2Proof.Xea.update]
@[simp] theorem XeaUpdate_ccr (i : Sys2Proof.Xea) (s : State) : (i.update s).ccr = s.ccr := by cases i <;> simp [Sys2Proof.Xea.update]
@[simp] theorem XeaUpdate_ipl (i : Sys2Proof.Xea) (s : State) : (i.update s).ipl = s.ipl := by cases i <;> simp [Sys2Proof.Xea.update]
@[simp] theorem XeaUpdate_tmp1 (i : Sys2Proof.Xea) (s : State) : (i.update s).tmp1 = s.tmp1 := by cases i <;> simp [Sys2Proof.Xea.update]
@[simp] theorem XeaUpdate_tmp2 (i : Sys2Proof.Xea) (s : State) : (i.update s).tmp2 = s.tmp2 := by cases i <;> simp [Sys2Proof.Xea.update]
@[simp] theorem XeaUpdate_tmp3 (i : Sys2Proof.Xea) (s : State) : (i.update s).tmp3 = s.tmp3 := by cases i <;> simp [Sys2Proof.Xea.update]
@[simp] theorem XeaUpdate_run (i : Sys2Proof.Xea) (s : State) : (i.update s).run = s.run := by cases i <;> simp [Sys2Proof.Xea.update]
@[simp] theorem XeaUpdate_iDelay (i : Sys2Proof.Xea) (s : State) : (i.update s).iDelay = s.iDelay := by cases i <;> simp [Sys2Proof.Xea.update]
@[simp] theorem XeaUpdate_inputs (i : Sys2Proof.Xea) (s : State) : (i.update s).inputs = s.inputs := by cases i <;> simp [Sys2Proof.Xea.update]
@[simp] theorem XeaUpdate_device (i : Sys2Proof.Xea) (s : State) : (i.update s).device = s.device := by cases i <;> simp [Sys2Proof.Xea.update]
@[simp] theorem XeaUpdate_free (i : Sys2Proof.Xea) (s : State) : (i.update s).free = s.free := by cases i <;> simp [Sys2Proof.Xea.update]
@[simp] theorem XeaUpdate_ppage (i : Sys2Proof.Xea) (s : State) : (i.update s).ppage = s.ppage := by cases i <;> simp [Sys2Proof.Xea.update]
@[simp] theorem XeaUpdate_gpage (i : Sys2Proof.Xea) (s : State) : (i.update s).gpage = s.gpage := by cases i <;> simp [Sys2Proof.Xea.update]
@[simp] theorem XeaUpdate_direct (i : Sys2Proof.Xea) (s : State) : (i.update s).direct = s.direct := by cases i <;> simp [Sys2Proof.Xea.update]
@[simp] theorem XeaUpdate_vb (i : Sys2Proof.Xea) (s : State) : (i.update s).vb = s.vb := by cases i <;> simp [Sys2Proof.Xea.update]
@[simp] theorem XeaUpdate_stale (i : Sys2Proof.Xea) (s : State) : (i.update s).stale = s.stale := by cases i <;> simp [Sys2Proof.Xea.update]
@[simp] theorem XeaUpdate_mem (i : Sys2Proof.Xea) (s : State) : (i.update s).mem = s.mem := by cases i <;> simp [Sys2Proof.Xea.update]
@[simp] theorem Src8Update_a (i : Sys2Proof.Src8) (s : State) : (i.update s).a = s.a := by cases i <;> simp [Sys2Proof.Src8.update]
@[simp] theorem Src8Update_b (i : Sys2Proof.Src8) (s : State) : (i.update s).b = s.b := by cases i <;> simp [Sys2Proof.Src8.update]
@[simp] theorem Src8Update_pc (i : Sys2Proof.Src8) (s : State) : (i.update s).pc = s.pc := by cases i <;> simp [Sys2Proof.Src8.update]
@[simp] theorem Src8Update_ccr (i : Sys2Proof.Src8) (s : State) : (i.update s).ccr = s.ccr := by cases i <;> simp [Sys2Proof.Src8.update]
@[simp] theorem Src8Update_ipl (i : Sys2Proof.Src8) (s : State) : (i.update s).ipl = s.ipl := by cases i <;> simp [Sys2Proof.Src8.update]
@[simp] theorem Src8Update_tmp1 (i : Sys2Proof.Src8) (s : State) : (i.update s).tmp1 = s.tmp1 := by cases i <;> simp [Sys2Proof.Src8.update]
@[simp] theorem Src8Update_tmp2 (i : Sys2Proof.Src8) (s : State) : (i.update s).tmp2 = s.tmp2 := by cases i <;> simp [Sys2Proof.Src8.update]
@[simp] theorem Src8Update_tmp3 (i : Sys2Proof.Src8) (s : State) : (i.update s).tmp3 = s.tmp3 := by cases i <;> simp [Sys2Proof.Src8.update]
@[simp] theorem Src8Update_run (i : Sys2Proof.Src8) (s : State) : (i.update s).run = s.run := by cases i <;> simp [Sys2Proof.Src8.update]
@[simp] theorem Src8Update_iDelay (i : Sys2Proof.Src8) (s : State) : (i.update s).iDelay = s.iDelay := by cases i <;> simp [Sys2Proof.Src8.update]
@[simp] theorem Src8Update_inputs (i : Sys2Proof.Src8) (s : State) : (i.update s).inputs = s.inputs := by cases i <;> simp [Sys2Proof.Src8.update]
@[simp] theorem Src8Update_device (i : Sys2Proof.Src8) (s : State) : (i.update s).device = s.device := by cases i <;> simp [Sys2Proof.Src8.update]
@[simp] theorem Src8Update_free (i : Sys2Proof.Src8) (s : State) : (i.update s).free = s.free := by cases i <;> simp [Sys2Proof.Src8.update]
@[simp] theorem Src8Update_ppage (i : Sys2Proof.Src8) (s : State) : (i.update s).ppage = s.ppage := by cases i <;> simp [Sys2Proof.Src8.update]
@[simp] theorem Src8Update_gpage (i : Sys2Proof.Src8) (s : State) : (i.update s).gpage = s.gpage := by cases i <;> simp [Sys2Proof.Src8.update]
@[simp] theorem Src8Update_direct (i : Sys2Proof.Src8) (s : State) : (i.update s).direct = s.direct := by cases i <;> simp [Sys2Proof.Src8.update]
@[simp] theorem Src8Update_vb (i : Sys2Proof.Src8) (s : State) : (i.update s).vb = s.vb := by cases i <;> simp [Sys2Proof.Src8.update]
@[simp] theorem Src8Update_stale (i : Sys2Proof.Src8) (s : State) : (i.update s).stale = s.stale := by cases i <;> simp [Sys2Proof.Src8.update]
@[simp] theorem Src8Update_mem (i : Sys2Proof.Src8) (s : State) : (i.update s).mem = s.mem := by cases i <;> simp [Sys2Proof.Src8.update]
@[simp] theorem Src16Update_a (i : Sys2Proof.Src16) (s : State) : (i.update s).a = s.a := by cases i <;> simp [Sys2Proof.Src16.update]
@[simp] theorem Src16Update_b (i : Sys2Proof.Src16) (s : State) : (i.update s).b = s.b := by cases i <;> simp [Sys2Proof.Src16.update]
@[simp] theorem Src16Update_pc (i : Sys2Proof.Src16) (s : State) : (i.update s).pc = s.pc := by cases i <;> simp [Sys2Proof.Src16.update]
@[simp] theorem Src16Update_ccr (i : Sys2Proof.Src16) (s : State) : (i.update s).ccr = s.ccr := by cases i <;> simp [Sys2Proof.Src16.update]
@[simp] theorem Src16Update_ipl (i : Sys2Proof.Src16) (s : State) : (i.update s).ipl = s.ipl := by cases i <;> simp [Sys2Proof.Src16.update]
@[simp] theorem Src16Update_tmp1 (i : Sys2Proof.Src16) (s : State) : (i.update s).tmp1 = s.tmp1 := by cases i <;> simp [Sys2Proof.Src16.update]
@[simp] theorem Src16Update_tmp2 (i : Sys2Proof.Src16) (s : State) : (i.update s).tmp2 = s.tmp2 := by cases i <;> simp [Sys2Proof.Src16.update]
@[simp] theorem Src16Update_tmp3 (i : Sys2Proof.Src16) (s : State) : (i.update s).tmp3 = s.tmp3 := by cases i <;> simp [Sys2Proof.Src16.update]
@[simp] theorem Src16Update_run (i : Sys2Proof.Src16) (s : State) : (i.update s).run = s.run := by cases i <;> simp [Sys2Proof.Src16.update]
@[simp] theorem Src16Update_iDelay (i : Sys2Proof.Src16) (s : State) : (i.update s).iDelay = s.iDelay := by cases i <;> simp [Sys2Proof.Src16.update]
@[simp] theorem Src16Update_inputs (i : Sys2Proof.Src16) (s : State) : (i.update s).inputs = s.inputs := by cases i <;> simp [Sys2Proof.Src16.update]
@[simp] theorem Src16Update_device (i : Sys2Proof.Src16) (s : State) : (i.update s).device = s.device := by cases i <;> simp [Sys2Proof.Src16.update]
@[simp] theorem Src16Update_free (i : Sys2Proof.Src16) (s : State) : (i.update s).free = s.free := by cases i <;> simp [Sys2Proof.Src16.update]
@[simp] theorem Src16Update_ppage (i : Sys2Proof.Src16) (s : State) : (i.update s).ppage = s.ppage := by cases i <;> simp [Sys2Proof.Src16.update]
@[simp] theorem Src16Update_gpage (i : Sys2Proof.Src16) (s : State) : (i.update s).gpage = s.gpage := by cases i <;> simp [Sys2Proof.Src16.update]
@[simp] theorem Src16Update_direct (i : Sys2Proof.Src16) (s : State) : (i.update s).direct = s.direct := by cases i <;> simp [Sys2Proof.Src16.update]
@[simp] theorem Src16Update_vb (i : Sys2Proof.Src16) (s : State) : (i.update s).vb = s.vb := by cases i <;> simp [Sys2Proof.Src16.update]
@[simp] theorem Src16Update_stale (i : Sys2Proof.Src16) (s : State) : (i.update s).stale = s.stale := by cases i <;> simp [Sys2Proof.Src16.update]
@[simp] theorem Src16Update_mem (i : Sys2Proof.Src16) (s : State) : (i.update s).mem = s.mem := by cases i <;> simp [Sys2Proof.Src16.update]
@[simp] theorem MoveSrc8Update_a (i : Sys2Proof.MoveSrc8) (s : State) : (i.update s).a = s.a := by cases i <;> simp [Sys2Proof.MoveSrc8.update]
@[simp] theorem MoveSrc8Update_b (i : Sys2Proof.MoveSrc8) (s : State) : (i.update s).b = s.b := by cases i <;> simp [Sys2Proof.MoveSrc8.update]
@[simp] theorem MoveSrc8Update_pc (i : Sys2Proof.MoveSrc8) (s : State) : (i.update s).pc = s.pc := by cases i <;> simp [Sys2Proof.MoveSrc8.update]
@[simp] theorem MoveSrc8Update_ccr (i : Sys2Proof.MoveSrc8) (s : State) : (i.update s).ccr = s.ccr := by cases i <;> simp [Sys2Proof.MoveSrc8.update]
@[simp] theorem MoveSrc8Update_ipl (i : Sys2Proof.MoveSrc8) (s : State) : (i.update s).ipl = s.ipl := by cases i <;> simp [Sys2Proof.MoveSrc8.update]
@[simp] theorem MoveSrc8Update_tmp1 (i : Sys2Proof.MoveSrc8) (s : State) : (i.update s).tmp1 = s.tmp1 := by cases i <;> simp [Sys2Proof.MoveSrc8.update]
@[simp] theorem MoveSrc8Update_tmp2 (i : Sys2Proof.MoveSrc8) (s : State) : (i.update s).tmp2 = s.tmp2 := by cases i <;> simp [Sys2Proof.MoveSrc8.update]
@[simp] theorem MoveSrc8Update_tmp3 (i : Sys2Proof.MoveSrc8) (s : State) : (i.update s).tmp3 = s.tmp3 := by cases i <;> simp [Sys2Proof.MoveSrc8.update]
@[simp] theorem MoveSrc8Update_run (i : Sys2Proof.MoveSrc8) (s : State) : (i.update s).run = s.run := by cases i <;> simp [Sys2Proof.MoveSrc8.update]
@[simp] theorem MoveSrc8Update_iDelay (i : Sys2Proof.MoveSrc8) (s : State) : (i.update s).iDelay = s.iDelay := by cases i <;> simp [Sys2Proof.MoveSrc8.update]
@[simp] theorem MoveSrc8Update_inputs (i : Sys2Proof.MoveSrc8) (s : State) : (i.update s).inputs = s.inputs := by cases i <;> simp [Sys2Proof.MoveSrc8.update]
@[simp] theorem MoveSrc8Update_device (i : Sys2Proof.MoveSrc8) (s : State) : (i.update s).device = s.device := by cases i <;> simp [Sys2Proof.MoveSrc8.update]
@[simp] theorem MoveSrc8Update_free (i : Sys2Proof.MoveSrc8) (s : State) : (i.update s).free = s.free := by cases i <;> simp [Sys2Proof.MoveSrc8.update]
@[simp] theorem MoveSrc8Update_ppage (i : Sys2Proof.MoveSrc8) (s : State) : (i.update s).ppage = s.ppage := by cases i <;> simp [Sys2Proof.MoveSrc8.update]
@[simp] theorem MoveSrc8Update_gpage (i : Sys2Proof.MoveSrc8) (s : State) : (i.update s).gpage = s.gpage := by cases i <;> simp [Sys2Proof.MoveSrc8.update]
@[simp] theorem MoveSrc8Update_direct (i : Sys2Proof.MoveSrc8) (s : State) : (i.update s).direct = s.direct := by cases i <;> simp [Sys2Proof.MoveSrc8.update]
@[simp] theorem MoveSrc8Update_vb (i : Sys2Proof.MoveSrc8) (s : State) : (i.update s).vb = s.vb := by cases i <;> simp [Sys2Proof.MoveSrc8.update]
@[simp] theorem MoveSrc8Update_stale (i : Sys2Proof.MoveSrc8) (s : State) : (i.update s).stale = s.stale := by cases i <;> simp [Sys2Proof.MoveSrc8.update]
@[simp] theorem MoveSrc8Update_mem (i : Sys2Proof.MoveSrc8) (s : State) : (i.update s).mem = s.mem := by cases i <;> simp [Sys2Proof.MoveSrc8.update]
@[simp] theorem MoveSrc16Update_a (i : Sys2Proof.MoveSrc16) (s : State) : (i.update s).a = s.a := by cases i <;> simp [Sys2Proof.MoveSrc16.update]
@[simp] theorem MoveSrc16Update_b (i : Sys2Proof.MoveSrc16) (s : State) : (i.update s).b = s.b := by cases i <;> simp [Sys2Proof.MoveSrc16.update]
@[simp] theorem MoveSrc16Update_pc (i : Sys2Proof.MoveSrc16) (s : State) : (i.update s).pc = s.pc := by cases i <;> simp [Sys2Proof.MoveSrc16.update]
@[simp] theorem MoveSrc16Update_ccr (i : Sys2Proof.MoveSrc16) (s : State) : (i.update s).ccr = s.ccr := by cases i <;> simp [Sys2Proof.MoveSrc16.update]
@[simp] theorem MoveSrc16Update_ipl (i : Sys2Proof.MoveSrc16) (s : State) : (i.update s).ipl = s.ipl := by cases i <;> simp [Sys2Proof.MoveSrc16.update]
@[simp] theorem MoveSrc16Update_tmp1 (i : Sys2Proof.MoveSrc16) (s : State) : (i.update s).tmp1 = s.tmp1 := by cases i <;> simp [Sys2Proof.MoveSrc16.update]
@[simp] theorem MoveSrc16Update_tmp2 (i : Sys2Proof.MoveSrc16) (s : State) : (i.update s).tmp2 = s.tmp2 := by cases i <;> simp [Sys2Proof.MoveSrc16.update]
@[simp] theorem MoveSrc16Update_tmp3 (i : Sys2Proof.MoveSrc16) (s : State) : (i.update s).tmp3 = s.tmp3 := by cases i <;> simp [Sys2Proof.MoveSrc16.update]
@[simp] theorem MoveSrc16Update_run (i : Sys2Proof.MoveSrc16) (s : State) : (i.update s).run = s.run := by cases i <;> simp [Sys2Proof.MoveSrc16.update]
@[simp] theorem MoveSrc16Update_iDelay (i : Sys2Proof.MoveSrc16) (s : State) : (i.update s).iDelay = s.iDelay := by cases i <;> simp [Sys2Proof.MoveSrc16.update]
@[simp] theorem MoveSrc16Update_inputs (i : Sys2Proof.MoveSrc16) (s : State) : (i.update s).inputs = s.inputs := by cases i <;> simp [Sys2Proof.MoveSrc16.update]
@[simp] theorem MoveSrc16Update_device (i : Sys2Proof.MoveSrc16) (s : State) : (i.update s).device = s.device := by cases i <;> simp [Sys2Proof.MoveSrc16.update]
@[simp] theorem MoveSrc16Update_free (i : Sys2Proof.MoveSrc16) (s : State) : (i.update s).free = s.free := by cases i <;> simp [Sys2Proof.MoveSrc16.update]
@[simp] theorem MoveSrc16Update_ppage (i : Sys2Proof.MoveSrc16) (s : State) : (i.update s).ppage = s.ppage := by cases i <;> simp [Sys2Proof.MoveSrc16.update]
@[simp] theorem MoveSrc16Update_gpage (i : Sys2Proof.MoveSrc16) (s : State) : (i.update s).gpage = s.gpage := by cases i <;> simp [Sys2Proof.MoveSrc16.update]
@[simp] theorem MoveSrc16Update_direct (i : Sys2Proof.MoveSrc16) (s : State) : (i.update s).direct = s.direct := by cases i <;> simp [Sys2Proof.MoveSrc16.update]
@[simp] theorem MoveSrc16Update_vb (i : Sys2Proof.MoveSrc16) (s : State) : (i.update s).vb = s.vb := by cases i <;> simp [Sys2Proof.MoveSrc16.update]
@[simp] theorem MoveSrc16Update_stale (i : Sys2Proof.MoveSrc16) (s : State) : (i.update s).stale = s.stale := by cases i <;> simp [Sys2Proof.MoveSrc16.update]
@[simp] theorem MoveSrc16Update_mem (i : Sys2Proof.MoveSrc16) (s : State) : (i.update s).mem = s.mem := by cases i <;> simp [Sys2Proof.MoveSrc16.update]

/-! ## Keys and kinds -/

theorem State.logicalKey_congr (s t : State) (a : Word) (hd : t.device = s.device) (hp : t.ppage = s.ppage) :
    t.logicalKey a = s.logicalKey a := by simp [State.logicalKey, hd, hp]

theorem State.globalKey_congr (s t : State) (a : Word) (hg : t.gpage = s.gpage) : t.globalKey a = s.globalKey a := by
  simp [State.globalKey, hg]

theorem State.readKey_congr (s t : State) (k : Nat) (hd : t.device = s.device) (hf : t.free = s.free)
    (hm : Memory.read t.mem k = Memory.read s.mem k) : t.readKey k = s.readKey k := by
  simp [State.readKey, hd, hf, hm]

theorem State.pageReg_congr (s t : State) (r : PageReg) (hp : t.ppage = s.ppage) (hg : t.gpage = s.gpage)
    (hd : t.direct = s.direct) (hv : t.vb = s.vb) : t.pageReg r = s.pageReg r := by
  cases r <;> simp [State.pageReg, hp, hg, hd, hv]

theorem State.readByte_congr (s t : State) (a : Word) (hd : t.device = s.device) (hf : t.free = s.free)
    (hp : t.ppage = s.ppage) (hg : t.gpage = s.gpage) (hdi : t.direct = s.direct) (hv : t.vb = s.vb)
    (hm : t.mem = s.mem) : t.readByte a = s.readByte a := by
  simp only [State.readByte, hd]
  split
  · exact State.pageReg_congr s t _ hp hg hdi hv
  · rw [State.logicalKey_congr s t a hd hp]; exact State.readKey_congr s t _ hd hf (by rw [hm])

/-- An update of an index register changes no byte that a read gives. -/
@[simp] theorem readByte_setAutoReg (s : State) (r : AutoReg) (v a : Word) :
    (s.setAutoReg r v).readByte a = s.readByte a := by
  apply State.readByte_congr <;> simp

/-! ## Stores -/

/-- A store to a physical address leaves every other one alone. -/
theorem State.read_writeKey (s : State) (k j : Nat) (v : Byte) (h : j ≠ k) :
    Memory.read (s.writeKey k v).mem j = Memory.read s.mem j := by
  unfold State.writeKey
  split
  · exact Memory.read_write_ne s.mem k j v h
  · exact Memory.read_write_ne s.mem k j _ h
  · rfl
  · rfl

/-- What a store leaves at its physical address, by what the device has there. -/
theorem State.read_writeKey_self (s : State) (k : Nat) (v : Byte) (hm : Memory.wf s.mem = true) :
    Memory.read (s.writeKey k v).mem k = keptByte s k v := by
  simp only [State.writeKey, keptByte]
  cases regionKind s.device.regions k
  · exact Memory.read_write_self s.mem 0 k v hm
  · rfl
  · rfl
  · exact Memory.read_write_self s.mem 0 k _ hm

/-- What one byte store does (`StoresByte`). -/
theorem stores_writeByte (s : State) (a : Word) (v : Byte) (hm : MemoryForm s) :
    StoresByte [] s (s.writeByte a v) a v := by
  unfold StoresByte
  refine ⟨?_, ?_, ?_⟩
  · intro k hk
    simp only [List.mem_singleton] at hk
    unfold State.writeByte
    split
    · simp
    · simp only [State.noteStore_mem]; exact s.read_writeKey _ _ v hk
  · intro hu
    unfold Unmapped at hu
    refine ⟨?_, ?_⟩
    · intro f hf
      cases f <;> simp_all [Field.Same, State.writeByte]
    · simp only [State.writeByte, hu, State.noteStore_mem]
      exact s.read_writeKey_self _ v hm
  · intro r hr
    simp only [State.writeByte, hr]
    refine ⟨fun _ _ => by simp, ?_, ?_⟩
    · cases r <;> simp [State.pageReg, State.setPageReg, pageValue]
      revert v; decide
    · intro f hf
      cases r <;> cases f <;> simp_all [Field.Same, State.setPageReg, pageField]

theorem sameExcept_refl (fs : List Field) (s : State) : SameExcept fs s s := by
  intro f _; cases f <;> rfl

theorem sameExcept_trans {fs gs : List Field} {s t u : State} (h1 : SameExcept fs s t) (h2 : SameExcept gs t u) :
    SameExcept (gs ++ fs) s u := by
  intro f hf
  simp only [List.mem_append, not_or] at hf
  have a := h1 f hf.2
  have b := h2 f hf.1
  cases f <;> simp_all [Field.Same]

theorem sameExcept_mono {fs gs : List Field} {s t : State} (h : SameExcept fs s t) (hsub : ∀ f, f ∈ fs → f ∈ gs) :
    SameExcept gs s t := fun f hf => h f fun hc => hf (hsub f hc)

theorem pageReg_of_same {s t : State} {r : PageReg} (h : (pageField r).Same s t) : t.pageReg r = s.pageReg r := by
  cases r <;> simp_all [pageField, Field.Same, State.pageReg]

/-- A store followed by updates of other registers. -/
theorem storesByte_then {also more : List Field} {s t u : State} {a : Word} {v : Byte} (h : StoresByte also s t a v)
    (hs : SameExcept more t u) (hm : u.mem = t.mem) (hp : ∀ r, pageField r ∉ more) :
    StoresByte (more ++ also) s u a v := by
  obtain ⟨h1, h2, h3⟩ := h
  refine ⟨?_, ?_, ?_⟩
  · intro k hk; rw [hm]; exact h1 k hk
  · intro hu
    exact ⟨sameExcept_mono (sameExcept_trans (h2 hu).1 hs) (by intro f; simp only [List.mem_append, List.mem_cons]; rintro (h | h | h) <;> simp [h]),
      by rw [hm]; exact (h2 hu).2⟩
  · intro r hr
    refine ⟨fun k hk => by rw [hm]; exact (h3 r hr).1 k hk, ?_, ?_⟩
    · rw [pageReg_of_same (hs (pageField r) (hp r))]; exact (h3 r hr).2.1
    · exact sameExcept_mono (sameExcept_trans (h3 r hr).2.2 hs) (by intro f; simp only [List.mem_append, List.mem_cons]; rintro (h | h | h | h) <;> simp [h])

/-- What one word store does (`StoresWord`). -/
theorem stores_writeWord (s : State) (a v : Word) (hm : MemoryForm s) : StoresWord [] s (s.writeWord a v) a v :=
  ⟨s.writeByte a (hiByte v), stores_writeByte s a _ hm, stores_writeByte _ (a + 1) _ (s.wf_writeByte a _ hm)⟩

/-- A word store followed by updates of other registers. -/
theorem storesWord_then {also more : List Field} {s t u : State} {a v : Word} (h : StoresWord also s t a v)
    (hs : SameExcept more t u) (hm : u.mem = t.mem) (hp : ∀ r, pageField r ∉ more) :
    StoresWord (more ++ also) s u a v := by
  obtain ⟨m, h1, h2⟩ := h
  exact ⟨m, h1, storesByte_then h2 hs hm hp⟩

theorem sameExcept_setCcr (t : State) (c : Byte) : SameExcept [.ccr] t (t.setCcr c) := by
  intro f hf; cases f <;> simp_all [Field.Same]

/-- A byte store, then the condition codes. -/
theorem stores_writeByte_setCcr (s : State) (a : Word) (v c : Byte) (hm : MemoryForm s) :
    StoresByte [.ccr] s ((s.writeByte a v).setCcr c) a v :=
  storesByte_then (stores_writeByte s a v hm) (sameExcept_setCcr _ c) rfl (by intro r; cases r <;> simp [pageField])

/-- A word store, then the condition codes. -/
theorem stores_writeWord_setCcr (s : State) (a v : Word) (c : Byte) (hm : MemoryForm s) :
    StoresWord [.ccr] s ((s.writeWord a v).setCcr c) a v :=
  storesWord_then (stores_writeWord s a v hm) (sameExcept_setCcr _ c) rfl (by intro r; cases r <;> simp [pageField])

/-- What one global byte store does (`GlobalStoresByte`). -/
theorem stores_globalWriteByte (s : State) (ea : Word) (v : Byte) (hm : MemoryForm s) :
    GlobalStoresByte [] s (s.globalWriteByte ea v) ea v := by
  refine ⟨?_, ?_, ?_⟩
  · intro k hk
    simp only [List.mem_singleton] at hk
    exact s.read_writeKey _ k v hk
  · intro f _; cases f <;> simp [Field.Same]
  · exact s.read_writeKey_self _ v hm

/-! ## Frames of the operations that store nothing -/

/-- An operand's address form changes at most its index register. -/
theorem idxUpdate_same (i : Idx) (s : State) : SameExcept [.x, .y, .sp] s (i.update s) ∧ (i.update s).mem = s.mem := by
  refine ⟨?_, by simp⟩
  intro f hf; cases f <;> simp_all [Field.Same]

/-- A change of flow changes PC and forgets the stale bytes. -/
theorem jumpTo_same (s : State) (target : Word) : SameExcept [.pc, .stale] s (s.jumpTo target) := by
  intro f hf; cases f <;> simp_all [Field.Same]

/-- Free condition codes: the bits outside the mask stay, the counter of free values moves on. -/
theorem freeFlags_same (s : State) (mask : Byte) :
    SameExcept [.ccr, .free] s (s.freeFlags mask) ∧ SameCcrOutside mask s.ccr (s.freeFlags mask).ccr := by
  refine ⟨?_, ?_⟩
  · intro f hf; cases f <;> simp_all [Field.Same]
  · simp only [SameCcrOutside, State.freeFlags, State.useFree, State.setCcr]
    ext i hi
    simp only [BitVec.getElem_and, BitVec.getElem_or, BitVec.getElem_not]
    cases mask[i] <;> simp

/-- Writing the condition codes from data: every bit from the value but X, which the write cannot set. -/
theorem writeCcr_bits (s : State) (v : Byte) (j : Nat) (hj : j < 8) :
    (s.writeCcr v).ccr.getLsbD j = (v.getLsbD j && (j != 6 || s.ccr.getLsbD 6)) := by
  have h : (s.writeCcr v).ccr = xRule s.ccr v := rfl
  rw [h, xRule]
  have : j = 0 ∨ j = 1 ∨ j = 2 ∨ j = 3 ∨ j = 4 ∨ j = 5 ∨ j = 6 ∨ j = 7 := by omega
  rcases this with rfl | rfl | rfl | rfl | rfl | rfl | rfl | rfl <;> simp [Bool.and_comm]

/-- The word of its own two bytes. -/
@[simp] theorem wordOf_hi_lo (w : Word) : wordOf (hiByte w) (loByte w) = w := by
  simp only [wordOf, hiByte, loByte]
  apply BitVec.eq_of_getLsbD_eq
  intro i hi
  simp only [BitVec.getLsbD_append, BitVec.getLsbD_extractLsb']
  by_cases h : i < 8
  · simp [h]
  · have h2 : i - 8 < 8 := by omega
    have h3 : 8 + (i - 8) = i := by omega
    simp [h, h2, h3]

@[simp] theorem hiByte_wordOf (p q : Byte) : hiByte (wordOf p q) = p := by
  simp only [wordOf, hiByte]
  apply BitVec.eq_of_getLsbD_eq
  intro i hi
  simp only [BitVec.getLsbD_extractLsb', BitVec.getLsbD_append]
  simp [hi]

@[simp] theorem loByte_wordOf (p q : Byte) : loByte (wordOf p q) = q := by
  simp only [wordOf, loByte]
  apply BitVec.eq_of_getLsbD_eq
  intro i hi
  simp only [BitVec.getLsbD_extractLsb', BitVec.getLsbD_append]
  simp [hi]

@[simp] theorem State.setD_d (s : State) (v : Word) : (s.setD v).d = v := by simp [State.d]

end Sys2Proof.Machine
end

