-- ==== Sys2Proof/Laws/Exceptions.lean ====
section
/-! SUPPORT. Taking an exception and returning from one, said once: the frame that a push of ten bytes leaves in RAM, all that
`enter` does, all that `returnFromInterrupt` does. -/

namespace Sys2Proof.Machine

open Sys2Proof Sys2Proof.Safety

/-- Two logical addresses of one state never share a physical one. -/
theorem logicalKey_injective (s : State) (a b : Word) (h : s.logicalKey a = s.logicalKey b) : a = b := by
  unfold State.logicalKey inWindow at h
  have ha := a.isLt
  have hb := b.isLt
  have w : ∀ a : Word, (a.extractLsb' 14 2 == 2#2) = true → a.toNat / 0x4000 = 2 := by
    intro a h
    simp only [beq_iff_eq] at h
    have h' := congrArg BitVec.toNat h
    simp [Nat.shiftRight_eq_div_pow] at h'
    omega
  apply BitVec.eq_of_toNat_eq
  have hp := s.ppage.isLt
  split_ifs at h with h1 h2 h2
  · have := w a (by simp_all)
    have := w b (by simp_all)
    omega
  · omega
  · omega
  · exact h

/-- Reading RAM is reading memory. -/
theorem readByte_ram (s : State) (a : Word) (h : IsRam s a) : s.readByte a = Memory.read s.mem (s.logicalKey a) := by
  have h1 := h.1
  unfold Unmapped at h1
  simp [State.readByte, h1, State.readKey, h.2]

/-- A store to RAM is a write of memory. -/
theorem writeByte_ram_mem (s : State) (a : Word) (v : Byte) (h : IsRam s a) :
    (s.writeByte a v).mem = Memory.write s.mem (s.logicalKey a) v := by
  obtain ⟨h1, h2⟩ := h
  unfold Unmapped at h1
  simp only [State.writeByte, h1, State.noteStore_mem, State.writeKey, h2]

/-- A store to RAM changes no register of another module. -/
theorem writeByte_ram_page (s : State) (a : Word) (v : Byte) (hr : IsRam s a) :
    (s.writeByte a v).ppage = s.ppage ∧ (s.writeByte a v).gpage = s.gpage ∧
    (s.writeByte a v).direct = s.direct ∧ (s.writeByte a v).vb = s.vb := by
  have h := hr.1
  unfold Unmapped at h
  simp [State.writeByte, h]

/-- `t` is `s` with the listed bytes written to RAM and SP moved. -/
structure Written (s t : State) (bytes : List (Word × Byte)) : Prop where
  mem : t.mem = bytes.foldl (fun m p => Memory.write m (s.logicalKey p.1) p.2) s.mem
  same : SameExcept [.sp, .stale] s t

theorem Written.refl (s : State) : Written s s [] := ⟨rfl, sameExcept_refl _ _⟩

theorem Written.key {s t : State} {l : List (Word × Byte)} (h : Written s t l) (a : Word) :
    t.logicalKey a = s.logicalKey a := by
  have e1 := h.same .device (by simp)
  have e2 := h.same .ppage (by simp)
  simp only [Field.Same] at e1 e2
  simp [State.logicalKey, e1, e2]

theorem Written.ram {s t : State} {l : List (Word × Byte)} (h : Written s t l) (a : Word) (ha : IsRam s a) :
    IsRam t a := by
  have e1 := h.same .device (by simp)
  simp only [Field.Same] at e1
  exact ⟨by simpa [Unmapped, e1] using ha.1, by rw [h.key, e1]; exact ha.2⟩

/-- One more byte. -/
theorem Written.byte {s t : State} {l : List (Word × Byte)} (h : Written s t l) (a : Word) (v : Byte) (ha : IsRam s a) :
    Written s (t.writeByte a v) (l ++ [(a, v)]) := by
  have hr := h.ram a ha
  refine ⟨?_, ?_⟩
  · rw [writeByte_ram_mem _ _ _ hr, h.key, h.mem]; simp
  · have p := writeByte_ram_page t a v hr
    intro f hf
    have hs := h.same f hf
    cases f <;> simp_all [Field.Same]

theorem Written.setSp {s t : State} {l : List (Word × Byte)} (h : Written s t l) (v : Word) :
    Written s (t.setSp v) l := by
  refine ⟨h.mem, ?_⟩
  intro f hf
  have hs := h.same f hf
  cases f <;> simp_all [Field.Same]

/-- One more pushed word. -/
theorem Written.word {s t : State} {l : List (Word × Byte)} (h : Written s t l) (v : Word) (h1 : IsRam s (t.sp - 2))
    (h2 : IsRam s (t.sp - 2 + 1)) :
    Written s (t.pushWord v) (l ++ [(t.sp - 2, hiByte v)] ++ [(t.sp - 2 + 1, loByte v)]) :=
  ((h.setSp (t.sp - 2)).byte _ _ h1).byte _ _ h2

/-- Reading a written list at a key that is not in it. -/
theorem read_foldl_ne (m : List Host.Cell) (l : List (Nat × Byte)) (k : Nat) (h : ∀ p ∈ l, p.1 ≠ k) :
    Memory.read (l.foldl (fun m p => Memory.write m p.1 p.2) m) k = Memory.read m k := by
  induction l generalizing m with
  | nil => rfl
  | cons p l ih =>
    rw [List.foldl_cons, ih _ (fun q hq => h q (by simp [hq])),
      Memory.read_write_ne _ _ _ _ (Ne.symm (h p (by simp)))]

/-- Reading a written list at the last key equal to it. -/
theorem read_foldl_eq (m : List Host.Cell) (hm : Memory.wf m = true) (l1 l2 : List (Nat × Byte)) (k : Nat) (v : Byte)
    (hlt : ∀ p ∈ l1, p.1 < Memory.limit) (h : ∀ p ∈ l2, p.1 ≠ k) :
    Memory.read ((l1 ++ (k, v) :: l2).foldl (fun m p => Memory.write m p.1 p.2) m) k = v := by
  rw [List.foldl_append, List.foldl_cons, read_foldl_ne _ _ _ h]
  apply Memory.read_write_self _ 0
  clear h
  induction l1 generalizing m with
  | nil => exact hm
  | cons p l ih => exact ih _ (Memory.wf_write _ _ _ (hlt p (by simp)) hm) (fun q hq => hlt q (by simp [hq]))

theorem sub_ne_sub (w : Word) (a b : Nat) (ha : a < 65536) (hb : b < 65536) (hn : a ≠ b) :
    w - BitVec.ofNat 16 a ≠ w - BitVec.ofNat 16 b := by
  intro e
  have e' := congrArg BitVec.toNat e
  have hw := w.isLt
  simp [BitVec.toNat_sub] at e'
  omega

/-- The ten bytes that `pushFrame` writes, in the order it writes them (60_exceptions.md R811). -/
theorem pushFrame_written (s : State) (rtn : Word) (hs : StackIsRam s 10) :
    (s.pushFrame rtn).sp = s.sp - 10 ∧ Written s (s.pushFrame rtn)
      [(s.sp - 2, hiByte rtn), (s.sp - 1, loByte rtn), (s.sp - 4, hiByte s.y), (s.sp - 3, loByte s.y),
       (s.sp - 6, hiByte s.x), (s.sp - 5, loByte s.x), (s.sp - 8, s.b), (s.sp - 7, s.a), (s.sp - 10, s.ccrh),
       (s.sp - 9, s.ccr)] := by
  have hr : ∀ k, 1 ≤ k → k ≤ 10 → IsRam s (s.sp - BitVec.ofNat 16 k) := by
    intro k h1 h2
    have h := hs (k - 1) (by omega)
    rwa [Nat.sub_add_cancel h1] at h
  have e1 : s.sp - 2 + 1 = s.sp - 1 := by ring
  have e2 : s.sp - 2 - 2 = s.sp - 4 := by ring
  have e3 : s.sp - 4 + 1 = s.sp - 3 := by ring
  have e4 : s.sp - 4 - 2 = s.sp - 6 := by ring
  have e5 : s.sp - 6 + 1 = s.sp - 5 := by ring
  have e6 : s.sp - 6 - 2 = s.sp - 8 := by ring
  have e7 : s.sp - 8 + 1 = s.sp - 7 := by ring
  have e8 : s.sp - 8 - 2 = s.sp - 10 := by ring
  have e9 : s.sp - 10 + 1 = s.sp - 9 := by ring
  have sp : ∀ (t : State) v, (t.pushWord v).sp = t.sp - 2 := by intro t v; simp [State.pushWord]
  have s1 := sp s rtn
  have s2 := sp (s.pushWord rtn) s.y
  rw [s1, e2] at s2
  have s3 := sp ((s.pushWord rtn).pushWord s.y) s.x
  rw [s2, e4] at s3
  have s4 := sp (((s.pushWord rtn).pushWord s.y).pushWord s.x) (wordOf s.b s.a)
  rw [s3, e6] at s4
  have s5 := sp ((((s.pushWord rtn).pushWord s.y).pushWord s.x).pushWord (wordOf s.b s.a)) s.ccrw
  rw [s4, e8] at s5
  have p1 := (Written.refl s).word rtn (hr 2 (by omega) (by omega)) (by rw [e1]; exact hr 1 (by omega) (by omega))
  have p2 := p1.word s.y (by rw [s1, e2]; exact hr 4 (by omega) (by omega))
    (by rw [s1, e2, e3]; exact hr 3 (by omega) (by omega))
  have p3 := p2.word s.x (by rw [s2, e4]; exact hr 6 (by omega) (by omega))
    (by rw [s2, e4, e5]; exact hr 5 (by omega) (by omega))
  have p4 := p3.word (wordOf s.b s.a) (by rw [s3, e6]; exact hr 8 (by omega) (by omega))
    (by rw [s3, e6, e7]; exact hr 7 (by omega) (by omega))
  have p5 := p4.word s.ccrw (by rw [s4, e8]; exact hr 10 (by omega) (by omega))
    (by rw [s4, e8, e9]; exact hr 9 (by omega) (by omega))
  have hh : hiByte s.ccrw = s.ccrh := hiByte_wordOf _ _
  have hl : loByte s.ccrw = s.ccr := loByte_wordOf _ _
  rw [s1, s2, s3, s4] at p5
  simp only [hiByte_wordOf, loByte_wordOf, List.nil_append, List.cons_append, hh, hl, e1, e2, e3, e4, e5, e6, e7, e8,
    e9] at p5
  exact ⟨s5, p5⟩

/-- The frame stands below the old SP and nothing else in memory changes (60_exceptions.md R811). -/
theorem pushFrame_pushed (s : State) (rtn : Word) (hm : MemoryForm s) (hs : StackIsRam s 10) :
    FramePushed s (s.pushFrame rtn) rtn := by
  obtain ⟨hsp, hp⟩ := pushFrame_written s rtn hs
  have hmem := hp.mem
  rw [← List.foldl_map (f := fun p : Word × Byte => (s.logicalKey p.1, p.2))
    (g := fun m p => Memory.write m p.1 p.2)] at hmem
  simp only [List.map_cons, List.map_nil] at hmem
  have kn : ∀ a b : Nat, a < 65536 → b < 65536 → a ≠ b →
      s.logicalKey (s.sp - BitVec.ofNat 16 a) ≠ s.logicalKey (s.sp - BitVec.ofNat 16 b) :=
    fun a b h h' hn e => sub_ne_sub _ a b h h' hn (logicalKey_injective s _ _ e)
  have sub1 : ∀ k, s.sp - 1 - BitVec.ofNat 16 k = s.sp - BitVec.ofNat 16 (k + 1) := by
    intro k
    rw [show BitVec.ofNat 16 (k + 1) = BitVec.ofNat 16 k + 1 from by simp [BitVec.ofNat_add]]
    ring
  have hlim : ∀ a, s.logicalKey a < Memory.limit := fun a => by
    have := s.logicalKey_lt a
    simp [Memory.limit]; omega
  refine ⟨hsp, ?_, ?_⟩
  · intro k hk
    rw [sub1, hmem]
    have at_ : ∀ (n : Nat) (v : Byte) (l2 : List (Nat × Byte)),
        (∀ p ∈ l2, p.1 ≠ s.logicalKey (s.sp - BitVec.ofNat 16 n)) → ∀ l1 : List (Nat × Byte),
        (∀ p ∈ l1, p.1 < Memory.limit) →
        Memory.read ((l1 ++ (s.logicalKey (s.sp - BitVec.ofNat 16 n), v) :: l2).foldl
          (fun m p => Memory.write m p.1 p.2) s.mem) (s.logicalKey (s.sp - BitVec.ofNat 16 n)) = v := by
      intro n v l2 h l1 h'
      exact read_foldl_eq s.mem hm l1 l2 _ v h' h
    have hcases : k = 0 ∨ k = 1 ∨ k = 2 ∨ k = 3 ∨ k = 4 ∨ k = 5 ∨ k = 6 ∨ k = 7 ∨ k = 8 ∨ k = 9 := by omega
    rcases hcases with rfl | rfl | rfl | rfl | rfl | rfl | rfl | rfl | rfl | rfl
    · refine at_ 1 (loByte rtn) _ ?_ [_] ?_ <;> simp [hlim]
      refine ⟨?_, ?_, ?_, ?_, ?_, ?_, ?_, ?_⟩ <;> apply kn <;> omega
    · refine at_ 2 (hiByte rtn) _ ?_ [] ?_ <;> simp
      refine ⟨?_, ?_, ?_, ?_, ?_, ?_, ?_, ?_, ?_⟩ <;> apply kn <;> omega
    · refine at_ 3 (loByte s.y) _ ?_ [_, _, _] ?_ <;> simp [hlim]
      refine ⟨?_, ?_, ?_, ?_, ?_, ?_⟩ <;> apply kn <;> omega
    · refine at_ 4 (hiByte s.y) _ ?_ [_, _] ?_ <;> simp [hlim]
      refine ⟨?_, ?_, ?_, ?_, ?_, ?_, ?_⟩ <;> apply kn <;> omega
    · refine at_ 5 (loByte s.x) _ ?_ [_, _, _, _, _] ?_ <;> simp [hlim]
      refine ⟨?_, ?_, ?_, ?_⟩ <;> apply kn <;> omega
    · refine at_ 6 (hiByte s.x) _ ?_ [_, _, _, _] ?_ <;> simp [hlim]
      refine ⟨?_, ?_, ?_, ?_, ?_⟩ <;> apply kn <;> omega
    · refine at_ 7 s.a _ ?_ [_, _, _, _, _, _, _] ?_ <;> simp [hlim]
      refine ⟨?_, ?_⟩ <;> apply kn <;> omega
    · refine at_ 8 s.b _ ?_ [_, _, _, _, _, _] ?_ <;> simp [hlim]
      refine ⟨?_, ?_, ?_⟩ <;> apply kn <;> omega
    · refine at_ 9 s.ccr _ ?_ [_, _, _, _, _, _, _, _, _] ?_ <;> simp [hlim]
    · have e : frameByte s rtn 9 = s.ccrh := by
        show s.ipl.zeroExtend 8 = 0#5 ++ s.ipl
        generalize s.ipl = i
        revert i
        decide
      rw [e]
      refine at_ 10 s.ccrh _ ?_ [_, _, _, _, _, _, _, _] ?_ <;> simp [hlim]
      apply kn 9 10 <;> omega
  · intro k hk
    rw [hmem]
    apply read_foldl_ne
    intro p hp' e
    apply hk
    simp only [List.mem_cons, List.not_mem_nil, or_false] at hp'
    rw [← e]
    simp only [List.mem_map, List.mem_range]
    rcases hp' with rfl | rfl | rfl | rfl | rfl | rfl | rfl | rfl | rfl | rfl
    · exact ⟨1, by omega, by rw [sub1]; rfl⟩
    · exact ⟨0, by omega, by rw [sub1]; rfl⟩
    · exact ⟨3, by omega, by rw [sub1]; rfl⟩
    · exact ⟨2, by omega, by rw [sub1]; rfl⟩
    · exact ⟨5, by omega, by rw [sub1]; rfl⟩
    · exact ⟨4, by omega, by rw [sub1]; rfl⟩
    · exact ⟨7, by omega, by rw [sub1]; rfl⟩
    · exact ⟨6, by omega, by rw [sub1]; rfl⟩
    · exact ⟨9, by omega, by rw [sub1]; rfl⟩
    · exact ⟨8, by omega, by rw [sub1]; rfl⟩

/-- The masks of an entry, bit by bit (60_exceptions.md R812). -/
theorem mask_bits (c : Byte) (setsX : Bool) : MasksSet setsX c (c ||| (if setsX then 0x50#8 else 0x10#8)) := by
  intro k hk
  have h : k = 0 ∨ k = 1 ∨ k = 2 ∨ k = 3 ∨ k = 4 ∨ k = 5 ∨ k = 6 ∨ k = 7 := by omega
  rcases h with rfl | rfl | rfl | rfl | rfl | rfl | rfl | rfl <;> cases setsX <;> simp

/-- All that taking an exception does, with a stack in RAM (60_exceptions.md R811, R812, R830). -/
theorem enter_does (s : State) (offset : Byte) (rtn : Word) (m : Masking) (hm : MemoryForm s) (hs : StackIsRam s 10) :
    Entered s (s.enter offset rtn m) offset rtn m.setsX (m.newIpl.getD s.ipl) := by
  obtain ⟨_, hp⟩ := pushFrame_written s rtn hs
  have fp := pushFrame_pushed s rtn hm hs
  have e1 : (s.enter offset rtn m).sp = (s.pushFrame rtn).sp := by
    unfold State.enter State.toHandler State.mask State.jumpTo; rfl
  have e2 : (s.enter offset rtn m).mem = (s.pushFrame rtn).mem := by
    unfold State.enter State.toHandler State.mask State.jumpTo; rfl
  have e3 : (s.enter offset rtn m).ccr = ((s.pushFrame rtn).mask m).ccr := by
    unfold State.enter State.toHandler State.jumpTo; rfl
  have e4 : (s.enter offset rtn m).ipl = ((s.pushFrame rtn).mask m).ipl := by
    unfold State.enter State.toHandler State.jumpTo; rfl
  have e5 : SameExcept [.sp, .pc, .ccr, .ipl, .run, .iDelay, .stale] (s.pushFrame rtn) (s.enter offset rtn m) := by
    intro f hf
    unfold State.enter State.toHandler State.mask State.jumpTo State.setCcr State.setIpl
    cases f <;> first | rfl | (exfalso; revert hf; decide)
  refine ⟨⟨?_, ?_, ?_⟩, rfl, ?_, ?_, rfl, ?_⟩
  · rw [e1]; exact fp.1
  · intro k hk; rw [e2]; exact fp.2.1 k hk
  · intro k hk; rw [e2]; exact fp.2.2 k hk
  · have hc : (s.pushFrame rtn).ccr = s.ccr := hp.same .ccr (by simp)
    rw [e3]
    simp only [State.mask, State.setCcr, State.setIpl, hc]
    exact mask_bits s.ccr m.setsX
  · have hi : (s.pushFrame rtn).ipl = s.ipl := hp.same .ipl (by simp)
    rw [e4]
    simp only [State.mask, State.setCcr, State.setIpl, hi]
  · intro f hf
    have h1 := hp.same f
    have h2 := e5 f hf
    cases f <;> first | (exfalso; revert hf; decide) | exact Eq.trans h2 (h1 (by decide))

/-- All that continuing at a vector does, the frame already standing (60_exceptions.md R816). -/
theorem enterFromWait_does (s : State) (offset : Byte) (m : Masking) :
    (s.enterFromWait offset m).pc = s.readWord (s.vb ++ offset) ∧ (s.enterFromWait offset m).run = .running ∧
    MasksSet m.setsX s.ccr (s.enterFromWait offset m).ccr ∧ (s.enterFromWait offset m).ipl = m.newIpl.getD s.ipl ∧
    Keeps [.pc, .run, .ccr, .ipl, .iDelay, .stale] s (s.enterFromWait offset m) := by
  refine ⟨rfl, rfl, mask_bits s.ccr m.setsX, rfl, ?_, fun _ _ => rfl⟩
  intro f hf
  cases f <;> first | rfl | (exfalso; revert hf; decide)

/-- All that returning from an exception does (48_stack_ccr_system.md R787). -/
theorem returnFromInterrupt_does (s : State) :
    s.returnFromInterrupt.ccr = xRule s.ccr (s.readByte (s.sp + 1)) ∧
    s.returnFromInterrupt.ipl = (s.readByte s.sp).extractLsb' 0 3 ∧
    s.returnFromInterrupt.b = hiByte (s.readWord (s.sp + 2)) ∧ s.returnFromInterrupt.a = loByte (s.readWord (s.sp + 2)) ∧
    s.returnFromInterrupt.x = s.readWord (s.sp + 4) ∧ s.returnFromInterrupt.y = s.readWord (s.sp + 6) ∧
    s.returnFromInterrupt.pc = s.readWord (s.sp + 8) ∧ s.returnFromInterrupt.sp = s.sp + 10 ∧
    Keeps [.ccr, .ipl, .b, .a, .x, .y, .pc, .sp, .stale] s s.returnFromInterrupt := by
  refine ⟨by simp [State.returnFromInterrupt, State.readWord], by simp [State.returnFromInterrupt, State.readWord], rfl,
    rfl, rfl, rfl, rfl, rfl, ?_, fun _ _ => rfl⟩
  intro f hf
  cases f <;> first | rfl | (exfalso; revert hf; decide)

/-- The XIRQ of a sample is not let through. -/
theorem xirq_masked (s : State) (h : (nextInput s).xirq = true → s.ccr.getLsbD 6 = true) :
    ((nextInput s).xirq && !s.ccr.getLsbD 6) = false := by
  cases hq : (nextInput s).xirq with
  | false => rfl
  | true => simp only [h hq]; rfl

/-- A sample that the masks let nothing of through leads to no entry (60_exceptions.md R810). -/
theorem recognised_none (s : State) (delayed : Bool) (h : NothingQualified s delayed) :
    s.nextSample.recognised (nextInput s) delayed = none := by
  obtain ⟨h3, h4⟩ := h
  simp only [State.recognised, show s.nextSample.ccr = s.ccr from rfl, xirq_masked s h3, Bool.false_eq_true, if_false]
  cases hi : (nextInput s).irq with
  | none => rfl
  | some r =>
    have hr := h4 r hi
    have e : (!delayed && s.nextSample.qualifies r) = false := by
      show (!delayed && (r.deliverable && !s.ccr.getLsbD 4 && decide (s.ipl < r.level))) = false
      rcases hr with h | h | h | h
      · simp [h]
      · simp [h]
      · simp only [h]; simp
      · have hl : ¬ s.ipl < r.level := by bv_omega
        simp [hl]
    simp [e]

/-- The interrupt that the masks let through is the one recognised (60_exceptions.md R804, R810, R830). -/
theorem recognised_qualified (s : State) (delayed : Bool) (offset : Byte) (setsX : Bool) (level : BitVec 3)
    (h : Qualified s delayed offset setsX level) : ∃ m : Masking,
    s.nextSample.recognised (nextInput s) delayed = some (offset, m) ∧ m.setsX = setsX ∧ m.newIpl.getD s.ipl = level := by
  rcases h with ⟨h1, h2, rfl, rfl, rfl⟩ | ⟨h1, r, h2, h3, h4, h5, rfl, rfl, rfl, rfl⟩
  · refine ⟨⟨true, s.device.xirqIpl⟩, ?_, rfl, rfl⟩
    simp only [State.recognised, show s.nextSample.ccr = s.ccr from rfl, h1, h2]; rfl
  · refine ⟨⟨false, some r.level⟩, ?_, rfl, rfl⟩
    simp only [State.recognised, show s.nextSample.ccr = s.ccr from rfl, show s.nextSample.ipl = s.ipl from rfl,
      xirq_masked s h1, h2, State.qualifies, h3, h4, decide_eq_true h5]
    rfl

end Sys2Proof.Machine
end

