-- ==== Sys2Proof/Laws/Meanings.lean ====
section
/-! SUPPORT. The shared operations that meanings are written with, one lemma each for all it does: loads, stores, operations
on a register and a source, compares, operations on one operand, branches. -/

namespace Sys2Proof.Machine

open Sys2Proof Sys2Proof.Safety

/-- A register with its writer: the value written is read back, `fields` alone change. -/
structure Writer {α : Type} (get : State → α) (set : State → α → State) (fields : List Field) : Prop where
  read : ∀ s v c, get ((set s v).setCcr c) = v
  same : ∀ s v, SameExcept fields s (set s v)
  ccr : ∀ s v, (set s v).ccr = s.ccr
  mem : ∀ s v, (set s v).mem = s.mem

theorem writer_a : Writer State.a State.setA [.a] where
  read _ _ _ := rfl
  same := by intro s v f hf; cases f <;> simp_all [Field.Same]
  ccr _ _ := rfl
  mem _ _ := rfl

theorem writer_b : Writer State.b State.setB [.b] where
  read _ _ _ := rfl
  same := by intro s v f hf; cases f <;> simp_all [Field.Same]
  ccr _ _ := rfl
  mem _ _ := rfl

theorem writer_d : Writer State.d State.setD [.a, .b] where
  read _ _ _ := by simp [State.d]
  same := by intro s v f hf; cases f <;> simp_all [Field.Same]
  ccr _ _ := rfl
  mem _ _ := rfl

theorem writer_x : Writer State.x State.setX [.x] where
  read _ _ _ := rfl
  same := by intro s v f hf; cases f <;> simp_all [Field.Same]
  ccr _ _ := rfl
  mem _ _ := rfl

theorem writer_y : Writer State.y State.setY [.y] where
  read _ _ _ := rfl
  same := by intro s v f hf; cases f <;> simp_all [Field.Same]
  ccr _ _ := rfl
  mem _ _ := rfl

theorem writer_sp : Writer State.sp State.setSp [.sp] where
  read _ _ _ := rfl
  same := by intro s v f hf; cases f <;> simp_all [Field.Same]
  ccr _ _ := rfl
  mem _ _ := rfl

/-- A register written and the condition codes set: nothing else changes. -/
theorem Writer.effect {α : Type} {get : State → α} {set : State → α → State} {fields : List Field}
    (w : Writer get set fields) (s : State) (v : α) (c : Byte) :
    SameExcept (.ccr :: fields) s ((set s v).setCcr c) ∧ SameMemory [] s ((set s v).setCcr c) := by
  refine ⟨sameExcept_trans (w.same s v) (sameExcept_setCcr _ c), fun k _ => ?_⟩
  show Memory.read (set s v).mem k = _
  rw [w.mem]

/-- All a load of a byte does. -/
theorem load8_does {get : State → Byte} {set : State → Byte → State} {fields : List Field} (w : Writer get set fields)
    (src : Src8) (s : State) : get (load8 set src s) = src.value s ∧
    Effect fields (.nz (src.value s) (some false) none) (src.update s) (load8 set src s) := by
  obtain ⟨h1, h2⟩ := w.effect (src.update s) (src.value s) (logicFlags (src.value s) (set (src.update s) (src.value s)).ccr)
  refine ⟨w.read _ _ _, h1, h2, ?_⟩
  have h := made_logicFlags (src.value s) (src.update s).ccr
  simpa only [load8, w.ccr, State.setCcr_ccr] using h

/-- All a load of a word does. -/
theorem load16_does {get : State → Word} {set : State → Word → State} {fields : List Field} (w : Writer get set fields)
    (src : Src16) (s : State) : get (load16 set src s) = src.value s ∧
    Effect fields (.nz (src.value s) (some false) none) (src.update s) (load16 set src s) := by
  obtain ⟨h1, h2⟩ := w.effect (src.update s) (src.value s) (logicFlags (src.value s) (set (src.update s) (src.value s)).ccr)
  refine ⟨w.read _ _ _, h1, h2, ?_⟩
  have h := made_logicFlags (src.value s) (src.update s).ccr
  simpa only [load16, w.ccr, State.setCcr_ccr] using h

/-- All a global load of a byte does. -/
theorem globalLoad8_does {get : State → Byte} {set : State → Byte → State} {fields : List Field}
    (w : Writer get set fields) (ea : Ea) (s : State) :
    get (globalLoad8 set ea s) = s.globalReadByte (ea.addr s) ∧
    Effect fields (.nz (s.globalReadByte (ea.addr s)) (some false) none) (ea.update s) (globalLoad8 set ea s) := by
  obtain ⟨h1, h2⟩ := w.effect (ea.update s) (s.globalReadByte (ea.addr s))
    (logicFlags (s.globalReadByte (ea.addr s)) (set (ea.update s) (s.globalReadByte (ea.addr s))).ccr)
  refine ⟨w.read _ _ _, h1, h2, ?_⟩
  have h := made_logicFlags (s.globalReadByte (ea.addr s)) (ea.update s).ccr
  simpa only [globalLoad8, w.ccr, State.setCcr_ccr] using h

/-- All a global load of a word does. -/
theorem globalLoad16_does {get : State → Word} {set : State → Word → State} {fields : List Field}
    (w : Writer get set fields) (ea : Ea) (s : State) :
    get (globalLoad16 set ea s) = s.globalReadWord (ea.addr s) ∧
    Effect fields (.nz (s.globalReadWord (ea.addr s)) (some false) none) (ea.update s) (globalLoad16 set ea s) := by
  obtain ⟨h1, h2⟩ := w.effect (ea.update s) (s.globalReadWord (ea.addr s))
    (logicFlags (s.globalReadWord (ea.addr s)) (set (ea.update s) (s.globalReadWord (ea.addr s))).ccr)
  refine ⟨w.read _ _ _, h1, h2, ?_⟩
  have h := made_logicFlags (s.globalReadWord (ea.addr s)) (ea.update s).ccr
  simpa only [globalLoad16, w.ccr, State.setCcr_ccr] using h

theorem memoryForm_update {s t : State} (h : t.mem = s.mem) (hm : MemoryForm s) : MemoryForm t := by
  simpa only [MemoryForm, h] using hm

/-- All a store of a byte does. -/
theorem store8_does (get : State → Byte) (ea : Ea) (s : State) (hm : MemoryForm s) :
    StoresByte [.ccr] (ea.update s) (store8 get ea s) (ea.addr s) (get (ea.update s)) ∧
    (FlagChange.nz (get (ea.update s)) (some false) none).Made s.ccr (store8 get ea s).ccr := by
  refine ⟨stores_writeByte_setCcr _ _ _ _ (memoryForm_update (by simp) hm), ?_⟩
  have h := made_logicFlags (get (ea.update s)) s.ccr
  simpa [store8] using h

/-- All a store of a word does. -/
theorem store16_does (get : State → Word) (ea : Ea) (s : State) (hm : MemoryForm s) :
    StoresWord [.ccr] (ea.update s) (store16 get ea s) (ea.addr s) (get (ea.update s)) ∧
    (FlagChange.nz (get (ea.update s)) (some false) none).Made s.ccr (store16 get ea s).ccr := by
  refine ⟨stores_writeWord_setCcr _ _ _ _ (memoryForm_update (by simp) hm), ?_⟩
  have h := made_logicFlags (get (ea.update s)) s.ccr
  simpa [store16] using h

/-- All an operation on a byte register and a source does: the result of `op`, its condition codes. -/
theorem binary8_does {get : State → Byte} {set : State → Byte → State} {fields : List Field} (w : Writer get set fields)
    (op : Byte → Byte → Byte → Byte × Byte) (src : Src8) (s : State) :
    get (binary8 get set op src s) = (op (get (src.update s)) (src.value s) s.ccr).1 ∧
    (binary8 get set op src s).ccr = (op (get (src.update s)) (src.value s) s.ccr).2 ∧
    SameExcept (.ccr :: fields) (src.update s) (binary8 get set op src s) ∧
    SameMemory [] (src.update s) (binary8 get set op src s) := by
  obtain ⟨h1, h2⟩ := w.effect (src.update s) (op (get (src.update s)) (src.value s) (src.update s).ccr).1
    (op (get (src.update s)) (src.value s) (src.update s).ccr).2
  have hc : (src.update s).ccr = s.ccr := by simp
  exact ⟨by rw [← hc]; exact w.read _ _ _, by rw [← hc]; rfl, h1, h2⟩

/-- All an operation on a word register and a source does. -/
theorem binary16_does {get : State → Word} {set : State → Word → State} {fields : List Field}
    (w : Writer get set fields) (op : Word → Word → Byte → Word × Byte) (src : Src16) (s : State) :
    get (binary16 get set op src s) = (op (get (src.update s)) (src.value s) s.ccr).1 ∧
    (binary16 get set op src s).ccr = (op (get (src.update s)) (src.value s) s.ccr).2 ∧
    SameExcept (.ccr :: fields) (src.update s) (binary16 get set op src s) ∧
    SameMemory [] (src.update s) (binary16 get set op src s) := by
  obtain ⟨h1, h2⟩ := w.effect (src.update s) (op (get (src.update s)) (src.value s) (src.update s).ccr).1
    (op (get (src.update s)) (src.value s) (src.update s).ccr).2
  have hc : (src.update s).ccr = s.ccr := by simp
  exact ⟨by rw [← hc]; exact w.read _ _ _, by rw [← hc]; rfl, h1, h2⟩

/-- All a byte operation without a result does. -/
theorem compare8_does (get : State → Byte) (op : Byte → Byte → Byte → Byte × Byte) (src : Src8) (s : State) :
    (compare8 get op src s).ccr = (op (get (src.update s)) (src.value s) s.ccr).2 ∧
    SameExcept [.ccr] (src.update s) (compare8 get op src s) ∧
    SameMemory [] (src.update s) (compare8 get op src s) := by
  have hc : (src.update s).ccr = s.ccr := by simp
  exact ⟨by rw [← hc]; rfl, sameExcept_setCcr _ _, fun _ _ => rfl⟩

/-- All a word operation without a result does. -/
theorem compare16_does (get : State → Word) (op : Word → Word → Byte → Word × Byte) (src : Src16) (s : State) :
    (compare16 get op src s).ccr = (op (get (src.update s)) (src.value s) s.ccr).2 ∧
    SameExcept [.ccr] (src.update s) (compare16 get op src s) ∧
    SameMemory [] (src.update s) (compare16 get op src s) := by
  have hc : (src.update s).ccr = s.ccr := by simp
  exact ⟨by rw [← hc]; rfl, sameExcept_setCcr _ _, fun _ _ => rfl⟩

/-- All an operation on the byte at EA does. -/
theorem modify8_does (op : Byte → Byte → Byte × Byte) (ea : Xea) (s : State) (hm : MemoryForm s) :
    StoresByte [.ccr] (ea.update s) (modify8 op ea s) (ea.addr s s.pc) (op (s.readByte (ea.addr s s.pc)) s.ccr).1 ∧
    (modify8 op ea s).ccr = (op (s.readByte (ea.addr s s.pc)) s.ccr).2 := by
  have hc : (ea.update s).ccr = s.ccr := by simp
  exact ⟨by rw [← hc]; exact stores_writeByte_setCcr _ _ _ _ (memoryForm_update (by simp) hm), by rw [← hc]; rfl⟩

/-- All an operation on the word at EA does. -/
theorem modify16_does (op : Word → Byte → Word × Byte) (ea : Xea) (s : State) (hm : MemoryForm s) :
    StoresWord [.ccr] (ea.update s) (modify16 op ea s) (ea.addr s s.pc) (op (s.readWord (ea.addr s s.pc)) s.ccr).1 ∧
    (modify16 op ea s).ccr = (op (s.readWord (ea.addr s s.pc)) s.ccr).2 := by
  have hc : (ea.update s).ccr = s.ccr := by simp
  exact ⟨by rw [← hc]; exact stores_writeWord_setCcr _ _ _ _ (memoryForm_update (by simp) hm), by rw [← hc]; rfl⟩

/-- All a conditional change of flow does. -/
theorem branchIf_does (s : State) (taken : Bool) (target : Word) :
    (s.branchIf taken target).pc = (if taken then target else s.pc) ∧ Keeps [.pc, .stale] s (s.branchIf taken target) := by
  cases taken
  · exact ⟨rfl, sameExcept_refl _ _, fun _ _ => rfl⟩
  · exact ⟨rfl, jumpTo_same s target, fun _ _ => rfl⟩

/-- A loop counter is zero exactly when its value is. -/
theorem counterZero_iff (s : State) (c : Ctr) : s.counterZero c = decide (counterValue s c = 0) := by
  cases c <;> exact eq_zero_iff _

/-- A push of one byte. -/
theorem pushByte_does (s : State) (v : Byte) (hm : MemoryForm s) :
    (s.pushByte v).sp = s.sp - 1 ∧ StoresByte [] (s.setSp (s.sp - 1)) (s.pushByte v) (s.sp - 1) v :=
  ⟨by simp [State.pushByte], stores_writeByte _ _ _ hm⟩

/-- A push of one word. -/
theorem pushWord_does (s : State) (v : Word) (hm : MemoryForm s) :
    (s.pushWord v).sp = s.sp - 2 ∧ StoresWord [] (s.setSp (s.sp - 2)) (s.pushWord v) (s.sp - 2) v :=
  ⟨by simp [State.pushWord], stores_writeWord _ _ _ hm⟩

end Sys2Proof.Machine
end

