-- ==== Sys2Proof/Laws/PerInstr.lean ====
section
/-! SUPPORT. A statement about every instruction, one lemma per constructor: its object code has one to eight bytes
(30_encoding.md R100). -/

namespace Sys2Proof.Laws.Size

open Sys2Proof

/-- The object code of an instruction has one to eight bytes (30_encoding.md R100). -/
def Statement (i : Instr) : Prop := 1 ≤ (encode i).length ∧ (encode i).length ≤ 8

theorem ldaa (src : Src8) : Statement (.ldaa src) := encSrc8_size _ _ _ _ _ src (Nat.le_of_ble_eq_true rfl)
theorem ldab (src : Src8) : Statement (.ldab src) := encSrc8_size _ _ _ _ _ src (Nat.le_of_ble_eq_true rfl)
theorem ldd (src : Src16) : Statement (.ldd src) := encSrc16_size _ _ _ _ _ src (Nat.le_of_ble_eq_true rfl)
theorem lds (src : Src16) : Statement (.lds src) := encSrc16_size _ _ _ _ _ src (Nat.le_of_ble_eq_true rfl)
theorem ldx (src : Src16) : Statement (.ldx src) := encSrc16_size _ _ _ _ _ src (Nat.le_of_ble_eq_true rfl)
theorem ldy (src : Src16) : Statement (.ldy src) := encSrc16_size _ _ _ _ _ src (Nat.le_of_ble_eq_true rfl)
theorem staa (ea : Ea) : Statement (.staa ea) := encEa_size _ _ _ _ ea (Nat.le_of_ble_eq_true rfl)
theorem stab (ea : Ea) : Statement (.stab ea) := encEa_size _ _ _ _ ea (Nat.le_of_ble_eq_true rfl)
theorem std (ea : Ea) : Statement (.std ea) := encEa_size _ _ _ _ ea (Nat.le_of_ble_eq_true rfl)
theorem sts (ea : Ea) : Statement (.sts ea) := encEa_size _ _ _ _ ea (Nat.le_of_ble_eq_true rfl)
theorem stx (ea : Ea) : Statement (.stx ea) := encEa_size _ _ _ _ ea (Nat.le_of_ble_eq_true rfl)
theorem sty (ea : Ea) : Statement (.sty ea) := encEa_size _ _ _ _ ea (Nat.le_of_ble_eq_true rfl)
theorem leas (idx : Idx) : Statement (.leas idx) := idx_size _ idx ⟨Nat.le_of_ble_eq_true rfl, Nat.le_of_ble_eq_true rfl⟩
theorem leax (idx : Idx) : Statement (.leax idx) := idx_size _ idx ⟨Nat.le_of_ble_eq_true rfl, Nat.le_of_ble_eq_true rfl⟩
theorem leay (idx : Idx) : Statement (.leay idx) := idx_size _ idx ⟨Nat.le_of_ble_eq_true rfl, Nat.le_of_ble_eq_true rfl⟩
theorem abx : Statement .abx := ⟨Nat.le_of_ble_eq_true rfl, Nat.le_of_ble_eq_true rfl⟩
theorem aby : Statement .aby := ⟨Nat.le_of_ble_eq_true rfl, Nat.le_of_ble_eq_true rfl⟩
theorem des : Statement .des := ⟨Nat.le_of_ble_eq_true rfl, Nat.le_of_ble_eq_true rfl⟩
theorem ins : Statement .ins := ⟨Nat.le_of_ble_eq_true rfl, Nat.le_of_ble_eq_true rfl⟩
theorem gldaa (ea : Ea) : Statement (.gldaa ea) := encEa_size _ _ _ _ ea (Nat.le_of_ble_eq_true rfl)
theorem gldab (ea : Ea) : Statement (.gldab ea) := encEa_size _ _ _ _ ea (Nat.le_of_ble_eq_true rfl)
theorem gldd (ea : Ea) : Statement (.gldd ea) := encEa_size _ _ _ _ ea (Nat.le_of_ble_eq_true rfl)
theorem glds (ea : Ea) : Statement (.glds ea) := encEa_size _ _ _ _ ea (Nat.le_of_ble_eq_true rfl)
theorem gldx (ea : Ea) : Statement (.gldx ea) := encEa_size _ _ _ _ ea (Nat.le_of_ble_eq_true rfl)
theorem gldy (ea : Ea) : Statement (.gldy ea) := encEa_size _ _ _ _ ea (Nat.le_of_ble_eq_true rfl)
theorem gstaa (ea : Ea) : Statement (.gstaa ea) := encEa_size _ _ _ _ ea (Nat.le_of_ble_eq_true rfl)
theorem gstab (ea : Ea) : Statement (.gstab ea) := encEa_size _ _ _ _ ea (Nat.le_of_ble_eq_true rfl)
theorem gstd (ea : Ea) : Statement (.gstd ea) := encEa_size _ _ _ _ ea (Nat.le_of_ble_eq_true rfl)
theorem gsts (ea : Ea) : Statement (.gsts ea) := encEa_size _ _ _ _ ea (Nat.le_of_ble_eq_true rfl)
theorem gstx (ea : Ea) : Statement (.gstx ea) := encEa_size _ _ _ _ ea (Nat.le_of_ble_eq_true rfl)
theorem gsty (ea : Ea) : Statement (.gsty ea) := encEa_size _ _ _ _ ea (Nat.le_of_ble_eq_true rfl)
theorem aba : Statement .aba := ⟨Nat.le_of_ble_eq_true rfl, Nat.le_of_ble_eq_true rfl⟩
theorem adca (src : Src8) : Statement (.adca src) := encSrc8_size _ _ _ _ _ src (Nat.le_of_ble_eq_true rfl)
theorem adcb (src : Src8) : Statement (.adcb src) := encSrc8_size _ _ _ _ _ src (Nat.le_of_ble_eq_true rfl)
theorem adda (src : Src8) : Statement (.adda src) := encSrc8_size _ _ _ _ _ src (Nat.le_of_ble_eq_true rfl)
theorem addb (src : Src8) : Statement (.addb src) := encSrc8_size _ _ _ _ _ src (Nat.le_of_ble_eq_true rfl)
theorem addd (src : Src16) : Statement (.addd src) := encSrc16_size _ _ _ _ _ src (Nat.le_of_ble_eq_true rfl)
theorem addx (src : Src16) : Statement (.addx src) := encSrc16_size _ _ _ _ _ src (Nat.le_of_ble_eq_true rfl)
theorem addy (src : Src16) : Statement (.addy src) := encSrc16_size _ _ _ _ _ src (Nat.le_of_ble_eq_true rfl)
theorem aded (src : Src16) : Statement (.aded src) := encSrc16_size _ _ _ _ _ src (Nat.le_of_ble_eq_true rfl)
theorem adex (src : Src16) : Statement (.adex src) := encSrc16_size _ _ _ _ _ src (Nat.le_of_ble_eq_true rfl)
theorem adey (src : Src16) : Statement (.adey src) := encSrc16_size _ _ _ _ _ src (Nat.le_of_ble_eq_true rfl)
theorem sba : Statement .sba := ⟨Nat.le_of_ble_eq_true rfl, Nat.le_of_ble_eq_true rfl⟩
theorem sbca (src : Src8) : Statement (.sbca src) := encSrc8_size _ _ _ _ _ src (Nat.le_of_ble_eq_true rfl)
theorem sbcb (src : Src8) : Statement (.sbcb src) := encSrc8_size _ _ _ _ _ src (Nat.le_of_ble_eq_true rfl)
theorem suba (src : Src8) : Statement (.suba src) := encSrc8_size _ _ _ _ _ src (Nat.le_of_ble_eq_true rfl)
theorem subb (src : Src8) : Statement (.subb src) := encSrc8_size _ _ _ _ _ src (Nat.le_of_ble_eq_true rfl)
theorem subd (src : Src16) : Statement (.subd src) := encSrc16_size _ _ _ _ _ src (Nat.le_of_ble_eq_true rfl)
theorem subx (src : Src16) : Statement (.subx src) := encSrc16_size _ _ _ _ _ src (Nat.le_of_ble_eq_true rfl)
theorem suby (src : Src16) : Statement (.suby src) := encSrc16_size _ _ _ _ _ src (Nat.le_of_ble_eq_true rfl)
theorem sbed (src : Src16) : Statement (.sbed src) := encSrc16_size _ _ _ _ _ src (Nat.le_of_ble_eq_true rfl)
theorem sbex (src : Src16) : Statement (.sbex src) := encSrc16_size _ _ _ _ _ src (Nat.le_of_ble_eq_true rfl)
theorem sbey (src : Src16) : Statement (.sbey src) := encSrc16_size _ _ _ _ _ src (Nat.le_of_ble_eq_true rfl)
theorem cba : Statement .cba := ⟨Nat.le_of_ble_eq_true rfl, Nat.le_of_ble_eq_true rfl⟩
theorem cmpa (src : Src8) : Statement (.cmpa src) := encSrc8_size _ _ _ _ _ src (Nat.le_of_ble_eq_true rfl)
theorem cmpb (src : Src8) : Statement (.cmpb src) := encSrc8_size _ _ _ _ _ src (Nat.le_of_ble_eq_true rfl)
theorem cpd (src : Src16) : Statement (.cpd src) := encSrc16_size _ _ _ _ _ src (Nat.le_of_ble_eq_true rfl)
theorem cps (src : Src16) : Statement (.cps src) := encSrc16_size _ _ _ _ _ src (Nat.le_of_ble_eq_true rfl)
theorem cpx (src : Src16) : Statement (.cpx src) := encSrc16_size _ _ _ _ _ src (Nat.le_of_ble_eq_true rfl)
theorem cpy (src : Src16) : Statement (.cpy src) := encSrc16_size _ _ _ _ _ src (Nat.le_of_ble_eq_true rfl)
theorem cped (src : Src16) : Statement (.cped src) := encSrc16_size _ _ _ _ _ src (Nat.le_of_ble_eq_true rfl)
theorem cpes (src : Src16) : Statement (.cpes src) := encSrc16_size _ _ _ _ _ src (Nat.le_of_ble_eq_true rfl)
theorem cpex (src : Src16) : Statement (.cpex src) := encSrc16_size _ _ _ _ _ src (Nat.le_of_ble_eq_true rfl)
theorem cpey (src : Src16) : Statement (.cpey src) := encSrc16_size _ _ _ _ _ src (Nat.le_of_ble_eq_true rfl)
theorem daa : Statement .daa := ⟨Nat.le_of_ble_eq_true rfl, Nat.le_of_ble_eq_true rfl⟩
theorem anda (src : Src8) : Statement (.anda src) := encSrc8_size _ _ _ _ _ src (Nat.le_of_ble_eq_true rfl)
theorem andb (src : Src8) : Statement (.andb src) := encSrc8_size _ _ _ _ _ src (Nat.le_of_ble_eq_true rfl)
theorem andx (src : Src16) : Statement (.andx src) := encSrc16_size _ _ _ _ _ src (Nat.le_of_ble_eq_true rfl)
theorem andy (src : Src16) : Statement (.andy src) := encSrc16_size _ _ _ _ _ src (Nat.le_of_ble_eq_true rfl)
theorem bita (src : Src8) : Statement (.bita src) := encSrc8_size _ _ _ _ _ src (Nat.le_of_ble_eq_true rfl)
theorem bitb (src : Src8) : Statement (.bitb src) := encSrc8_size _ _ _ _ _ src (Nat.le_of_ble_eq_true rfl)
theorem bitx (src : Src16) : Statement (.bitx src) := encSrc16_size _ _ _ _ _ src (Nat.le_of_ble_eq_true rfl)
theorem bity (src : Src16) : Statement (.bity src) := encSrc16_size _ _ _ _ _ src (Nat.le_of_ble_eq_true rfl)
theorem eora (src : Src8) : Statement (.eora src) := encSrc8_size _ _ _ _ _ src (Nat.le_of_ble_eq_true rfl)
theorem eorb (src : Src8) : Statement (.eorb src) := encSrc8_size _ _ _ _ _ src (Nat.le_of_ble_eq_true rfl)
theorem eorx (src : Src16) : Statement (.eorx src) := encSrc16_size _ _ _ _ _ src (Nat.le_of_ble_eq_true rfl)
theorem eory (src : Src16) : Statement (.eory src) := encSrc16_size _ _ _ _ _ src (Nat.le_of_ble_eq_true rfl)
theorem oraa (src : Src8) : Statement (.oraa src) := encSrc8_size _ _ _ _ _ src (Nat.le_of_ble_eq_true rfl)
theorem orab (src : Src8) : Statement (.orab src) := encSrc8_size _ _ _ _ _ src (Nat.le_of_ble_eq_true rfl)
theorem orx (src : Src16) : Statement (.orx src) := encSrc16_size _ _ _ _ _ src (Nat.le_of_ble_eq_true rfl)
theorem ory (src : Src16) : Statement (.ory src) := encSrc16_size _ _ _ _ _ src (Nat.le_of_ble_eq_true rfl)
theorem bclr (ea : Ea) (mask : Byte) : Statement (.bclr ea mask) := encEaThen_size _ _ _ _ ea _ (Nat.le_of_ble_eq_true rfl)
theorem bset (ea : Ea) (mask : Byte) : Statement (.bset ea mask) := encEaThen_size _ _ _ _ ea _ (Nat.le_of_ble_eq_true rfl)
theorem btas (ea : Ea) (mask : Byte) : Statement (.btas ea mask) := encEaThen_size _ _ _ _ ea _ (Nat.le_of_ble_eq_true rfl)
theorem clr (ea : Xea) : Statement (.clr ea) := encXea_size _ _ _ ea (Nat.le_of_ble_eq_true rfl)
theorem clra : Statement .clra := ⟨Nat.le_of_ble_eq_true rfl, Nat.le_of_ble_eq_true rfl⟩
theorem clrb : Statement .clrb := ⟨Nat.le_of_ble_eq_true rfl, Nat.le_of_ble_eq_true rfl⟩
theorem clrw (ea : Xea) : Statement (.clrw ea) := encXea_size _ _ _ ea (Nat.le_of_ble_eq_true rfl)
theorem clrx : Statement .clrx := ⟨Nat.le_of_ble_eq_true rfl, Nat.le_of_ble_eq_true rfl⟩
theorem clry : Statement .clry := ⟨Nat.le_of_ble_eq_true rfl, Nat.le_of_ble_eq_true rfl⟩
theorem com (ea : Xea) : Statement (.com ea) := encXea_size _ _ _ ea (Nat.le_of_ble_eq_true rfl)
theorem coma : Statement .coma := ⟨Nat.le_of_ble_eq_true rfl, Nat.le_of_ble_eq_true rfl⟩
theorem comb : Statement .comb := ⟨Nat.le_of_ble_eq_true rfl, Nat.le_of_ble_eq_true rfl⟩
theorem comw (ea : Xea) : Statement (.comw ea) := encXea_size _ _ _ ea (Nat.le_of_ble_eq_true rfl)
theorem comx : Statement .comx := ⟨Nat.le_of_ble_eq_true rfl, Nat.le_of_ble_eq_true rfl⟩
theorem comy : Statement .comy := ⟨Nat.le_of_ble_eq_true rfl, Nat.le_of_ble_eq_true rfl⟩
theorem neg (ea : Xea) : Statement (.neg ea) := encXea_size _ _ _ ea (Nat.le_of_ble_eq_true rfl)
theorem nega : Statement .nega := ⟨Nat.le_of_ble_eq_true rfl, Nat.le_of_ble_eq_true rfl⟩
theorem negb : Statement .negb := ⟨Nat.le_of_ble_eq_true rfl, Nat.le_of_ble_eq_true rfl⟩
theorem negw (ea : Xea) : Statement (.negw ea) := encXea_size _ _ _ ea (Nat.le_of_ble_eq_true rfl)
theorem negx : Statement .negx := ⟨Nat.le_of_ble_eq_true rfl, Nat.le_of_ble_eq_true rfl⟩
theorem negy : Statement .negy := ⟨Nat.le_of_ble_eq_true rfl, Nat.le_of_ble_eq_true rfl⟩
theorem dec (ea : Xea) : Statement (.dec ea) := encXea_size _ _ _ ea (Nat.le_of_ble_eq_true rfl)
theorem deca : Statement .deca := ⟨Nat.le_of_ble_eq_true rfl, Nat.le_of_ble_eq_true rfl⟩
theorem decb : Statement .decb := ⟨Nat.le_of_ble_eq_true rfl, Nat.le_of_ble_eq_true rfl⟩
theorem decw (ea : Xea) : Statement (.decw ea) := encXea_size _ _ _ ea (Nat.le_of_ble_eq_true rfl)
theorem decx : Statement .decx := ⟨Nat.le_of_ble_eq_true rfl, Nat.le_of_ble_eq_true rfl⟩
theorem decy : Statement .decy := ⟨Nat.le_of_ble_eq_true rfl, Nat.le_of_ble_eq_true rfl⟩
theorem dex : Statement .dex := ⟨Nat.le_of_ble_eq_true rfl, Nat.le_of_ble_eq_true rfl⟩
theorem dey : Statement .dey := ⟨Nat.le_of_ble_eq_true rfl, Nat.le_of_ble_eq_true rfl⟩
theorem inc (ea : Xea) : Statement (.inc ea) := encXea_size _ _ _ ea (Nat.le_of_ble_eq_true rfl)
theorem inca : Statement .inca := ⟨Nat.le_of_ble_eq_true rfl, Nat.le_of_ble_eq_true rfl⟩
theorem incb : Statement .incb := ⟨Nat.le_of_ble_eq_true rfl, Nat.le_of_ble_eq_true rfl⟩
theorem incw (ea : Xea) : Statement (.incw ea) := encXea_size _ _ _ ea (Nat.le_of_ble_eq_true rfl)
theorem incx : Statement .incx := ⟨Nat.le_of_ble_eq_true rfl, Nat.le_of_ble_eq_true rfl⟩
theorem incy : Statement .incy := ⟨Nat.le_of_ble_eq_true rfl, Nat.le_of_ble_eq_true rfl⟩
theorem inx : Statement .inx := ⟨Nat.le_of_ble_eq_true rfl, Nat.le_of_ble_eq_true rfl⟩
theorem iny : Statement .iny := ⟨Nat.le_of_ble_eq_true rfl, Nat.le_of_ble_eq_true rfl⟩
theorem tst (ea : Xea) : Statement (.tst ea) := encXea_size _ _ _ ea (Nat.le_of_ble_eq_true rfl)
theorem tsta : Statement .tsta := ⟨Nat.le_of_ble_eq_true rfl, Nat.le_of_ble_eq_true rfl⟩
theorem tstb : Statement .tstb := ⟨Nat.le_of_ble_eq_true rfl, Nat.le_of_ble_eq_true rfl⟩
theorem tstw (ea : Xea) : Statement (.tstw ea) := encXea_size _ _ _ ea (Nat.le_of_ble_eq_true rfl)
theorem tstx : Statement .tstx := ⟨Nat.le_of_ble_eq_true rfl, Nat.le_of_ble_eq_true rfl⟩
theorem tsty : Statement .tsty := ⟨Nat.le_of_ble_eq_true rfl, Nat.le_of_ble_eq_true rfl⟩
theorem asl (ea : Xea) : Statement (.asl ea) := encXea_size _ _ _ ea (Nat.le_of_ble_eq_true rfl)
theorem asla : Statement .asla := ⟨Nat.le_of_ble_eq_true rfl, Nat.le_of_ble_eq_true rfl⟩
theorem aslb : Statement .aslb := ⟨Nat.le_of_ble_eq_true rfl, Nat.le_of_ble_eq_true rfl⟩
theorem asld : Statement .asld := ⟨Nat.le_of_ble_eq_true rfl, Nat.le_of_ble_eq_true rfl⟩
theorem aslw (ea : Xea) : Statement (.aslw ea) := encXea_size _ _ _ ea (Nat.le_of_ble_eq_true rfl)
theorem aslx : Statement .aslx := ⟨Nat.le_of_ble_eq_true rfl, Nat.le_of_ble_eq_true rfl⟩
theorem asly : Statement .asly := ⟨Nat.le_of_ble_eq_true rfl, Nat.le_of_ble_eq_true rfl⟩
theorem lsl (ea : Xea) : Statement (.lsl ea) := encXea_size _ _ _ ea (Nat.le_of_ble_eq_true rfl)
theorem lsla : Statement .lsla := ⟨Nat.le_of_ble_eq_true rfl, Nat.le_of_ble_eq_true rfl⟩
theorem lslb : Statement .lslb := ⟨Nat.le_of_ble_eq_true rfl, Nat.le_of_ble_eq_true rfl⟩
theorem lsld : Statement .lsld := ⟨Nat.le_of_ble_eq_true rfl, Nat.le_of_ble_eq_true rfl⟩
theorem lslw (ea : Xea) : Statement (.lslw ea) := encXea_size _ _ _ ea (Nat.le_of_ble_eq_true rfl)
theorem lslx : Statement .lslx := ⟨Nat.le_of_ble_eq_true rfl, Nat.le_of_ble_eq_true rfl⟩
theorem lsly : Statement .lsly := ⟨Nat.le_of_ble_eq_true rfl, Nat.le_of_ble_eq_true rfl⟩
theorem asr (ea : Xea) : Statement (.asr ea) := encXea_size _ _ _ ea (Nat.le_of_ble_eq_true rfl)
theorem asra : Statement .asra := ⟨Nat.le_of_ble_eq_true rfl, Nat.le_of_ble_eq_true rfl⟩
theorem asrb : Statement .asrb := ⟨Nat.le_of_ble_eq_true rfl, Nat.le_of_ble_eq_true rfl⟩
theorem asrw (ea : Xea) : Statement (.asrw ea) := encXea_size _ _ _ ea (Nat.le_of_ble_eq_true rfl)
theorem asrx : Statement .asrx := ⟨Nat.le_of_ble_eq_true rfl, Nat.le_of_ble_eq_true rfl⟩
theorem asry : Statement .asry := ⟨Nat.le_of_ble_eq_true rfl, Nat.le_of_ble_eq_true rfl⟩
theorem lsr (ea : Xea) : Statement (.lsr ea) := encXea_size _ _ _ ea (Nat.le_of_ble_eq_true rfl)
theorem lsra : Statement .lsra := ⟨Nat.le_of_ble_eq_true rfl, Nat.le_of_ble_eq_true rfl⟩
theorem lsrb : Statement .lsrb := ⟨Nat.le_of_ble_eq_true rfl, Nat.le_of_ble_eq_true rfl⟩
theorem lsrd : Statement .lsrd := ⟨Nat.le_of_ble_eq_true rfl, Nat.le_of_ble_eq_true rfl⟩
theorem lsrw (ea : Xea) : Statement (.lsrw ea) := encXea_size _ _ _ ea (Nat.le_of_ble_eq_true rfl)
theorem lsrx : Statement .lsrx := ⟨Nat.le_of_ble_eq_true rfl, Nat.le_of_ble_eq_true rfl⟩
theorem lsry : Statement .lsry := ⟨Nat.le_of_ble_eq_true rfl, Nat.le_of_ble_eq_true rfl⟩
theorem rol (ea : Xea) : Statement (.rol ea) := encXea_size _ _ _ ea (Nat.le_of_ble_eq_true rfl)
theorem rola : Statement .rola := ⟨Nat.le_of_ble_eq_true rfl, Nat.le_of_ble_eq_true rfl⟩
theorem rolb : Statement .rolb := ⟨Nat.le_of_ble_eq_true rfl, Nat.le_of_ble_eq_true rfl⟩
theorem rolw (ea : Xea) : Statement (.rolw ea) := encXea_size _ _ _ ea (Nat.le_of_ble_eq_true rfl)
theorem rolx : Statement .rolx := ⟨Nat.le_of_ble_eq_true rfl, Nat.le_of_ble_eq_true rfl⟩
theorem roly : Statement .roly := ⟨Nat.le_of_ble_eq_true rfl, Nat.le_of_ble_eq_true rfl⟩
theorem ror (ea : Xea) : Statement (.ror ea) := encXea_size _ _ _ ea (Nat.le_of_ble_eq_true rfl)
theorem rora : Statement .rora := ⟨Nat.le_of_ble_eq_true rfl, Nat.le_of_ble_eq_true rfl⟩
theorem rorb : Statement .rorb := ⟨Nat.le_of_ble_eq_true rfl, Nat.le_of_ble_eq_true rfl⟩
theorem rorw (ea : Xea) : Statement (.rorw ea) := encXea_size _ _ _ ea (Nat.le_of_ble_eq_true rfl)
theorem rorx : Statement .rorx := ⟨Nat.le_of_ble_eq_true rfl, Nat.le_of_ble_eq_true rfl⟩
theorem rory : Statement .rory := ⟨Nat.le_of_ble_eq_true rfl, Nat.le_of_ble_eq_true rfl⟩
theorem mul : Statement .mul := ⟨Nat.le_of_ble_eq_true rfl, Nat.le_of_ble_eq_true rfl⟩
theorem emul : Statement .emul := ⟨Nat.le_of_ble_eq_true rfl, Nat.le_of_ble_eq_true rfl⟩
theorem emuls : Statement .emuls := ⟨Nat.le_of_ble_eq_true rfl, Nat.le_of_ble_eq_true rfl⟩
theorem emacs (addr : Word) : Statement (.emacs addr) := ⟨Nat.le_of_ble_eq_true rfl, Nat.le_of_ble_eq_true rfl⟩
theorem ediv : Statement .ediv := ⟨Nat.le_of_ble_eq_true rfl, Nat.le_of_ble_eq_true rfl⟩
theorem edivs : Statement .edivs := ⟨Nat.le_of_ble_eq_true rfl, Nat.le_of_ble_eq_true rfl⟩
theorem idiv : Statement .idiv := ⟨Nat.le_of_ble_eq_true rfl, Nat.le_of_ble_eq_true rfl⟩
theorem idivs : Statement .idivs := ⟨Nat.le_of_ble_eq_true rfl, Nat.le_of_ble_eq_true rfl⟩
theorem fdiv : Statement .fdiv := ⟨Nat.le_of_ble_eq_true rfl, Nat.le_of_ble_eq_true rfl⟩
theorem maxa (idx : Idx) : Statement (.maxa idx) := idx_size _ idx ⟨Nat.le_of_ble_eq_true rfl, Nat.le_of_ble_eq_true rfl⟩
theorem maxm (idx : Idx) : Statement (.maxm idx) := idx_size _ idx ⟨Nat.le_of_ble_eq_true rfl, Nat.le_of_ble_eq_true rfl⟩
theorem mina (idx : Idx) : Statement (.mina idx) := idx_size _ idx ⟨Nat.le_of_ble_eq_true rfl, Nat.le_of_ble_eq_true rfl⟩
theorem minm (idx : Idx) : Statement (.minm idx) := idx_size _ idx ⟨Nat.le_of_ble_eq_true rfl, Nat.le_of_ble_eq_true rfl⟩
theorem emaxd (idx : Idx) : Statement (.emaxd idx) := idx_size _ idx ⟨Nat.le_of_ble_eq_true rfl, Nat.le_of_ble_eq_true rfl⟩
theorem emaxm (idx : Idx) : Statement (.emaxm idx) := idx_size _ idx ⟨Nat.le_of_ble_eq_true rfl, Nat.le_of_ble_eq_true rfl⟩
theorem emind (idx : Idx) : Statement (.emind idx) := idx_size _ idx ⟨Nat.le_of_ble_eq_true rfl, Nat.le_of_ble_eq_true rfl⟩
theorem eminm (idx : Idx) : Statement (.eminm idx) := idx_size _ idx ⟨Nat.le_of_ble_eq_true rfl, Nat.le_of_ble_eq_true rfl⟩
theorem tbl (idx : Idx) : Statement (.tbl idx) := idx_size _ idx ⟨Nat.le_of_ble_eq_true rfl, Nat.le_of_ble_eq_true rfl⟩
theorem etbl (idx : Idx) : Statement (.etbl idx) := idx_size _ idx ⟨Nat.le_of_ble_eq_true rfl, Nat.le_of_ble_eq_true rfl⟩
theorem bcc (rel : Byte) : Statement (.bcc rel) := ⟨Nat.le_of_ble_eq_true rfl, Nat.le_of_ble_eq_true rfl⟩
theorem bcs (rel : Byte) : Statement (.bcs rel) := ⟨Nat.le_of_ble_eq_true rfl, Nat.le_of_ble_eq_true rfl⟩
theorem beq (rel : Byte) : Statement (.beq rel) := ⟨Nat.le_of_ble_eq_true rfl, Nat.le_of_ble_eq_true rfl⟩
theorem bge (rel : Byte) : Statement (.bge rel) := ⟨Nat.le_of_ble_eq_true rfl, Nat.le_of_ble_eq_true rfl⟩
theorem bgt (rel : Byte) : Statement (.bgt rel) := ⟨Nat.le_of_ble_eq_true rfl, Nat.le_of_ble_eq_true rfl⟩
theorem bhi (rel : Byte) : Statement (.bhi rel) := ⟨Nat.le_of_ble_eq_true rfl, Nat.le_of_ble_eq_true rfl⟩
theorem bhs (rel : Byte) : Statement (.bhs rel) := ⟨Nat.le_of_ble_eq_true rfl, Nat.le_of_ble_eq_true rfl⟩
theorem ble (rel : Byte) : Statement (.ble rel) := ⟨Nat.le_of_ble_eq_true rfl, Nat.le_of_ble_eq_true rfl⟩
theorem blo (rel : Byte) : Statement (.blo rel) := ⟨Nat.le_of_ble_eq_true rfl, Nat.le_of_ble_eq_true rfl⟩
theorem bls (rel : Byte) : Statement (.bls rel) := ⟨Nat.le_of_ble_eq_true rfl, Nat.le_of_ble_eq_true rfl⟩
theorem blt (rel : Byte) : Statement (.blt rel) := ⟨Nat.le_of_ble_eq_true rfl, Nat.le_of_ble_eq_true rfl⟩
theorem bmi (rel : Byte) : Statement (.bmi rel) := ⟨Nat.le_of_ble_eq_true rfl, Nat.le_of_ble_eq_true rfl⟩
theorem bne (rel : Byte) : Statement (.bne rel) := ⟨Nat.le_of_ble_eq_true rfl, Nat.le_of_ble_eq_true rfl⟩
theorem bpl (rel : Byte) : Statement (.bpl rel) := ⟨Nat.le_of_ble_eq_true rfl, Nat.le_of_ble_eq_true rfl⟩
theorem bra (rel : Byte) : Statement (.bra rel) := ⟨Nat.le_of_ble_eq_true rfl, Nat.le_of_ble_eq_true rfl⟩
theorem brn (rel : Byte) : Statement (.brn rel) := ⟨Nat.le_of_ble_eq_true rfl, Nat.le_of_ble_eq_true rfl⟩
theorem bvc (rel : Byte) : Statement (.bvc rel) := ⟨Nat.le_of_ble_eq_true rfl, Nat.le_of_ble_eq_true rfl⟩
theorem bvs (rel : Byte) : Statement (.bvs rel) := ⟨Nat.le_of_ble_eq_true rfl, Nat.le_of_ble_eq_true rfl⟩
theorem lbcc (rel : Word) : Statement (.lbcc rel) := ⟨Nat.le_of_ble_eq_true rfl, Nat.le_of_ble_eq_true rfl⟩
theorem lbcs (rel : Word) : Statement (.lbcs rel) := ⟨Nat.le_of_ble_eq_true rfl, Nat.le_of_ble_eq_true rfl⟩
theorem lbeq (rel : Word) : Statement (.lbeq rel) := ⟨Nat.le_of_ble_eq_true rfl, Nat.le_of_ble_eq_true rfl⟩
theorem lbge (rel : Word) : Statement (.lbge rel) := ⟨Nat.le_of_ble_eq_true rfl, Nat.le_of_ble_eq_true rfl⟩
theorem lbgt (rel : Word) : Statement (.lbgt rel) := ⟨Nat.le_of_ble_eq_true rfl, Nat.le_of_ble_eq_true rfl⟩
theorem lbhi (rel : Word) : Statement (.lbhi rel) := ⟨Nat.le_of_ble_eq_true rfl, Nat.le_of_ble_eq_true rfl⟩
theorem lbhs (rel : Word) : Statement (.lbhs rel) := ⟨Nat.le_of_ble_eq_true rfl, Nat.le_of_ble_eq_true rfl⟩
theorem lble (rel : Word) : Statement (.lble rel) := ⟨Nat.le_of_ble_eq_true rfl, Nat.le_of_ble_eq_true rfl⟩
theorem lblo (rel : Word) : Statement (.lblo rel) := ⟨Nat.le_of_ble_eq_true rfl, Nat.le_of_ble_eq_true rfl⟩
theorem lbls (rel : Word) : Statement (.lbls rel) := ⟨Nat.le_of_ble_eq_true rfl, Nat.le_of_ble_eq_true rfl⟩
theorem lblt (rel : Word) : Statement (.lblt rel) := ⟨Nat.le_of_ble_eq_true rfl, Nat.le_of_ble_eq_true rfl⟩
theorem lbmi (rel : Word) : Statement (.lbmi rel) := ⟨Nat.le_of_ble_eq_true rfl, Nat.le_of_ble_eq_true rfl⟩
theorem lbne (rel : Word) : Statement (.lbne rel) := ⟨Nat.le_of_ble_eq_true rfl, Nat.le_of_ble_eq_true rfl⟩
theorem lbpl (rel : Word) : Statement (.lbpl rel) := ⟨Nat.le_of_ble_eq_true rfl, Nat.le_of_ble_eq_true rfl⟩
theorem lbra (rel : Word) : Statement (.lbra rel) := ⟨Nat.le_of_ble_eq_true rfl, Nat.le_of_ble_eq_true rfl⟩
theorem lbrn (rel : Word) : Statement (.lbrn rel) := ⟨Nat.le_of_ble_eq_true rfl, Nat.le_of_ble_eq_true rfl⟩
theorem lbvc (rel : Word) : Statement (.lbvc rel) := ⟨Nat.le_of_ble_eq_true rfl, Nat.le_of_ble_eq_true rfl⟩
theorem lbvs (rel : Word) : Statement (.lbvs rel) := ⟨Nat.le_of_ble_eq_true rfl, Nat.le_of_ble_eq_true rfl⟩
theorem brclr (ea : Ea) (mask : Byte) (rel : Byte) : Statement (.brclr ea mask rel) := encEaThen_size _ _ _ _ ea _ (Nat.le_of_ble_eq_true rfl)
theorem brset (ea : Ea) (mask : Byte) (rel : Byte) : Statement (.brset ea mask rel) := encEaThen_size _ _ _ _ ea _ (Nat.le_of_ble_eq_true rfl)
theorem dbeq (ctr : Ctr) (rel : BitVec 9) : Statement (.dbeq ctr rel) := ⟨Nat.le_of_ble_eq_true rfl, Nat.le_of_ble_eq_true rfl⟩
theorem dbne (ctr : Ctr) (rel : BitVec 9) : Statement (.dbne ctr rel) := ⟨Nat.le_of_ble_eq_true rfl, Nat.le_of_ble_eq_true rfl⟩
theorem ibeq (ctr : Ctr) (rel : BitVec 9) : Statement (.ibeq ctr rel) := ⟨Nat.le_of_ble_eq_true rfl, Nat.le_of_ble_eq_true rfl⟩
theorem ibne (ctr : Ctr) (rel : BitVec 9) : Statement (.ibne ctr rel) := ⟨Nat.le_of_ble_eq_true rfl, Nat.le_of_ble_eq_true rfl⟩
theorem tbeq (ctr : Ctr) (rel : BitVec 9) : Statement (.tbeq ctr rel) := ⟨Nat.le_of_ble_eq_true rfl, Nat.le_of_ble_eq_true rfl⟩
theorem tbne (ctr : Ctr) (rel : BitVec 9) : Statement (.tbne ctr rel) := ⟨Nat.le_of_ble_eq_true rfl, Nat.le_of_ble_eq_true rfl⟩
theorem jmp (target : Xea) : Statement (.jmp target) := encXea_size _ _ _ target (Nat.le_of_ble_eq_true rfl)
theorem jsr (target : Ea) : Statement (.jsr target) := encEa_size _ _ _ _ target (Nat.le_of_ble_eq_true rfl)
theorem bsr (rel : Byte) : Statement (.bsr rel) := ⟨Nat.le_of_ble_eq_true rfl, Nat.le_of_ble_eq_true rfl⟩
theorem call (target : CallTarget) : Statement (.call target) := encCall_length target
theorem rtc : Statement .rtc := ⟨Nat.le_of_ble_eq_true rfl, Nat.le_of_ble_eq_true rfl⟩
theorem rts : Statement .rts := ⟨Nat.le_of_ble_eq_true rfl, Nat.le_of_ble_eq_true rfl⟩
theorem psha : Statement .psha := ⟨Nat.le_of_ble_eq_true rfl, Nat.le_of_ble_eq_true rfl⟩
theorem pshb : Statement .pshb := ⟨Nat.le_of_ble_eq_true rfl, Nat.le_of_ble_eq_true rfl⟩
theorem pshc : Statement .pshc := ⟨Nat.le_of_ble_eq_true rfl, Nat.le_of_ble_eq_true rfl⟩
theorem pshcw : Statement .pshcw := ⟨Nat.le_of_ble_eq_true rfl, Nat.le_of_ble_eq_true rfl⟩
theorem pshd : Statement .pshd := ⟨Nat.le_of_ble_eq_true rfl, Nat.le_of_ble_eq_true rfl⟩
theorem pshx : Statement .pshx := ⟨Nat.le_of_ble_eq_true rfl, Nat.le_of_ble_eq_true rfl⟩
theorem pshy : Statement .pshy := ⟨Nat.le_of_ble_eq_true rfl, Nat.le_of_ble_eq_true rfl⟩
theorem pula : Statement .pula := ⟨Nat.le_of_ble_eq_true rfl, Nat.le_of_ble_eq_true rfl⟩
theorem pulb : Statement .pulb := ⟨Nat.le_of_ble_eq_true rfl, Nat.le_of_ble_eq_true rfl⟩
theorem pulc : Statement .pulc := ⟨Nat.le_of_ble_eq_true rfl, Nat.le_of_ble_eq_true rfl⟩
theorem pulcw : Statement .pulcw := ⟨Nat.le_of_ble_eq_true rfl, Nat.le_of_ble_eq_true rfl⟩
theorem puld : Statement .puld := ⟨Nat.le_of_ble_eq_true rfl, Nat.le_of_ble_eq_true rfl⟩
theorem pulx : Statement .pulx := ⟨Nat.le_of_ble_eq_true rfl, Nat.le_of_ble_eq_true rfl⟩
theorem puly : Statement .puly := ⟨Nat.le_of_ble_eq_true rfl, Nat.le_of_ble_eq_true rfl⟩
theorem andcc (mask : Byte) : Statement (.andcc mask) := ⟨Nat.le_of_ble_eq_true rfl, Nat.le_of_ble_eq_true rfl⟩
theorem orcc (mask : Byte) : Statement (.orcc mask) := ⟨Nat.le_of_ble_eq_true rfl, Nat.le_of_ble_eq_true rfl⟩
theorem clc : Statement .clc := ⟨Nat.le_of_ble_eq_true rfl, Nat.le_of_ble_eq_true rfl⟩
theorem cli : Statement .cli := ⟨Nat.le_of_ble_eq_true rfl, Nat.le_of_ble_eq_true rfl⟩
theorem clv : Statement .clv := ⟨Nat.le_of_ble_eq_true rfl, Nat.le_of_ble_eq_true rfl⟩
theorem sec : Statement .sec := ⟨Nat.le_of_ble_eq_true rfl, Nat.le_of_ble_eq_true rfl⟩
theorem sei : Statement .sei := ⟨Nat.le_of_ble_eq_true rfl, Nat.le_of_ble_eq_true rfl⟩
theorem sev : Statement .sev := ⟨Nat.le_of_ble_eq_true rfl, Nat.le_of_ble_eq_true rfl⟩
theorem nop : Statement .nop := ⟨Nat.le_of_ble_eq_true rfl, Nat.le_of_ble_eq_true rfl⟩
theorem bgnd : Statement .bgnd := ⟨Nat.le_of_ble_eq_true rfl, Nat.le_of_ble_eq_true rfl⟩
theorem swi : Statement .swi := ⟨Nat.le_of_ble_eq_true rfl, Nat.le_of_ble_eq_true rfl⟩
theorem rti : Statement .rti := ⟨Nat.le_of_ble_eq_true rfl, Nat.le_of_ble_eq_true rfl⟩
theorem stop : Statement .stop := ⟨Nat.le_of_ble_eq_true rfl, Nat.le_of_ble_eq_true rfl⟩
theorem wai : Statement .wai := ⟨Nat.le_of_ble_eq_true rfl, Nat.le_of_ble_eq_true rfl⟩
theorem mem : Statement .mem := ⟨Nat.le_of_ble_eq_true rfl, Nat.le_of_ble_eq_true rfl⟩
theorem rev : Statement .rev := ⟨Nat.le_of_ble_eq_true rfl, Nat.le_of_ble_eq_true rfl⟩
theorem revw : Statement .revw := ⟨Nat.le_of_ble_eq_true rfl, Nat.le_of_ble_eq_true rfl⟩
theorem wav : Statement .wav := ⟨Nat.le_of_ble_eq_true rfl, Nat.le_of_ble_eq_true rfl⟩
theorem tfr (extended : Bool) (src : RegCode) (dst : RegCode) : Statement (.tfr extended src dst) := ⟨Nat.le_of_ble_eq_true rfl, Nat.le_of_ble_eq_true rfl⟩
theorem sex (op : SexOp) : Statement (.sex op) := ⟨Nat.le_of_ble_eq_true rfl, Nat.le_of_ble_eq_true rfl⟩
theorem exg (extended : Bool) (src : RegCode) (dst : RegCode) : Statement (.exg extended src dst) := ⟨Nat.le_of_ble_eq_true rfl, Nat.le_of_ble_eq_true rfl⟩
theorem tab : Statement .tab := ⟨Nat.le_of_ble_eq_true rfl, Nat.le_of_ble_eq_true rfl⟩
theorem tba : Statement .tba := ⟨Nat.le_of_ble_eq_true rfl, Nat.le_of_ble_eq_true rfl⟩
theorem tap : Statement .tap := ⟨Nat.le_of_ble_eq_true rfl, Nat.le_of_ble_eq_true rfl⟩
theorem tpa : Statement .tpa := ⟨Nat.le_of_ble_eq_true rfl, Nat.le_of_ble_eq_true rfl⟩
theorem tsx : Statement .tsx := ⟨Nat.le_of_ble_eq_true rfl, Nat.le_of_ble_eq_true rfl⟩
theorem tsy : Statement .tsy := ⟨Nat.le_of_ble_eq_true rfl, Nat.le_of_ble_eq_true rfl⟩
theorem txs : Statement .txs := ⟨Nat.le_of_ble_eq_true rfl, Nat.le_of_ble_eq_true rfl⟩
theorem tys : Statement .tys := ⟨Nat.le_of_ble_eq_true rfl, Nat.le_of_ble_eq_true rfl⟩
theorem xgdx : Statement .xgdx := ⟨Nat.le_of_ble_eq_true rfl, Nat.le_of_ble_eq_true rfl⟩
theorem xgdy : Statement .xgdy := ⟨Nat.le_of_ble_eq_true rfl, Nat.le_of_ble_eq_true rfl⟩
theorem movb (src : MoveSrc8) (dst : Xea) : Statement (.movb src dst) := encMove8_length src dst
theorem movw (src : MoveSrc16) (dst : Xea) : Statement (.movw src dst) := encMove16_length src dst
theorem trap (tn : Byte) : Statement (.trap tn) := ⟨Nat.le_of_ble_eq_true rfl, Nat.le_of_ble_eq_true rfl⟩
theorem wavr : Statement .wavr := ⟨Nat.le_of_ble_eq_true rfl, Nat.le_of_ble_eq_true rfl⟩

end Sys2Proof.Laws.Size
end

