-- ==== Sys2Proof/Laws/Steps.lean ====
section
/-! SUPPORT. What a step can do, said once: the updates it makes around `exec`, the step of a sample when no access is illegal,
the illegal-address reset, and what a held reset leaves. -/

namespace Sys2Proof.Machine

open Sys2Proof Sys2Proof.Safety

@[simp] theorem State.nextSample_a (s : State) : (s.nextSample).a = s.a := rfl
@[simp] theorem State.nextSample_b (s : State) : (s.nextSample).b = s.b := rfl
@[simp] theorem State.nextSample_x (s : State) : (s.nextSample).x = s.x := rfl
@[simp] theorem State.nextSample_y (s : State) : (s.nextSample).y = s.y := rfl
@[simp] theorem State.nextSample_sp (s : State) : (s.nextSample).sp = s.sp := rfl
@[simp] theorem State.nextSample_pc (s : State) : (s.nextSample).pc = s.pc := rfl
@[simp] theorem State.nextSample_ccr (s : State) : (s.nextSample).ccr = s.ccr := rfl
@[simp] theorem State.nextSample_ipl (s : State) : (s.nextSample).ipl = s.ipl := rfl
@[simp] theorem State.nextSample_tmp1 (s : State) : (s.nextSample).tmp1 = s.tmp1 := rfl
@[simp] theorem State.nextSample_tmp2 (s : State) : (s.nextSample).tmp2 = s.tmp2 := rfl
@[simp] theorem State.nextSample_tmp3 (s : State) : (s.nextSample).tmp3 = s.tmp3 := rfl
@[simp] theorem State.nextSample_ppage (s : State) : (s.nextSample).ppage = s.ppage := rfl
@[simp] theorem State.nextSample_gpage (s : State) : (s.nextSample).gpage = s.gpage := rfl
@[simp] theorem State.nextSample_direct (s : State) : (s.nextSample).direct = s.direct := rfl
@[simp] theorem State.nextSample_vb (s : State) : (s.nextSample).vb = s.vb := rfl
@[simp] theorem State.nextSample_mem (s : State) : (s.nextSample).mem = s.mem := rfl
@[simp] theorem State.nextSample_run (s : State) : (s.nextSample).run = s.run := rfl
@[simp] theorem State.nextSample_iDelay (s : State) : (s.nextSample).iDelay = s.iDelay := rfl
@[simp] theorem State.nextSample_stale (s : State) : (s.nextSample).stale = s.stale := rfl
@[simp] theorem State.nextSample_inputs (s : State) : (s.nextSample).inputs = s.inputs.tail := rfl
@[simp] theorem State.nextSample_device (s : State) : (s.nextSample).device = s.device := rfl
@[simp] theorem State.nextSample_free (s : State) : (s.nextSample).free = s.free + 1 := rfl
@[simp] theorem State.begin_a (s : State) (n : Nat) : (s.begin n).a = s.a := rfl
@[simp] theorem State.begin_b (s : State) (n : Nat) : (s.begin n).b = s.b := rfl
@[simp] theorem State.begin_x (s : State) (n : Nat) : (s.begin n).x = s.x := rfl
@[simp] theorem State.begin_y (s : State) (n : Nat) : (s.begin n).y = s.y := rfl
@[simp] theorem State.begin_sp (s : State) (n : Nat) : (s.begin n).sp = s.sp := rfl
@[simp] theorem State.begin_pc (s : State) (n : Nat) : (s.begin n).pc = s.pc + BitVec.ofNat 16 n := rfl
@[simp] theorem State.begin_ccr (s : State) (n : Nat) : (s.begin n).ccr = s.ccr := rfl
@[simp] theorem State.begin_ipl (s : State) (n : Nat) : (s.begin n).ipl = s.ipl := rfl
@[simp] theorem State.begin_tmp1 (s : State) (n : Nat) : (s.begin n).tmp1 = s.tmp1 := rfl
@[simp] theorem State.begin_tmp2 (s : State) (n : Nat) : (s.begin n).tmp2 = s.tmp2 := rfl
@[simp] theorem State.begin_tmp3 (s : State) (n : Nat) : (s.begin n).tmp3 = s.tmp3 := rfl
@[simp] theorem State.begin_ppage (s : State) (n : Nat) : (s.begin n).ppage = s.ppage := rfl
@[simp] theorem State.begin_gpage (s : State) (n : Nat) : (s.begin n).gpage = s.gpage := rfl
@[simp] theorem State.begin_direct (s : State) (n : Nat) : (s.begin n).direct = s.direct := rfl
@[simp] theorem State.begin_vb (s : State) (n : Nat) : (s.begin n).vb = s.vb := rfl
@[simp] theorem State.begin_mem (s : State) (n : Nat) : (s.begin n).mem = s.mem := rfl
@[simp] theorem State.begin_run (s : State) (n : Nat) : (s.begin n).run = s.run := rfl
@[simp] theorem State.begin_iDelay (s : State) (n : Nat) : (s.begin n).iDelay = false := rfl
@[simp] theorem State.begin_stale (s : State) (n : Nat) : (s.begin n).stale = s.stale := rfl
@[simp] theorem State.begin_inputs (s : State) (n : Nat) : (s.begin n).inputs = s.inputs := rfl
@[simp] theorem State.begin_device (s : State) (n : Nat) : (s.begin n).device = s.device := rfl
@[simp] theorem State.begin_free (s : State) (n : Nat) : (s.begin n).free = s.free := rfl
@[simp] theorem State.holdInReset_a (s : State) (k : ResetKind) : (s.holdInReset k).a = s.a := rfl
@[simp] theorem State.holdInReset_b (s : State) (k : ResetKind) : (s.holdInReset k).b = s.b := rfl
@[simp] theorem State.holdInReset_x (s : State) (k : ResetKind) : (s.holdInReset k).x = s.x := rfl
@[simp] theorem State.holdInReset_y (s : State) (k : ResetKind) : (s.holdInReset k).y = s.y := rfl
@[simp] theorem State.holdInReset_sp (s : State) (k : ResetKind) : (s.holdInReset k).sp = s.sp := rfl
@[simp] theorem State.holdInReset_pc (s : State) (k : ResetKind) : (s.holdInReset k).pc = s.pc := rfl
@[simp] theorem State.holdInReset_ccr (s : State) (k : ResetKind) : (s.holdInReset k).ccr = s.ccr := rfl
@[simp] theorem State.holdInReset_ipl (s : State) (k : ResetKind) : (s.holdInReset k).ipl = s.ipl := rfl
@[simp] theorem State.holdInReset_tmp1 (s : State) (k : ResetKind) : (s.holdInReset k).tmp1 = s.tmp1 := rfl
@[simp] theorem State.holdInReset_tmp2 (s : State) (k : ResetKind) : (s.holdInReset k).tmp2 = s.tmp2 := rfl
@[simp] theorem State.holdInReset_tmp3 (s : State) (k : ResetKind) : (s.holdInReset k).tmp3 = s.tmp3 := rfl
@[simp] theorem State.holdInReset_ppage (s : State) (k : ResetKind) : (s.holdInReset k).ppage = s.ppage := rfl
@[simp] theorem State.holdInReset_gpage (s : State) (k : ResetKind) : (s.holdInReset k).gpage = s.gpage := rfl
@[simp] theorem State.holdInReset_direct (s : State) (k : ResetKind) : (s.holdInReset k).direct = s.direct := rfl
@[simp] theorem State.holdInReset_vb (s : State) (k : ResetKind) : (s.holdInReset k).vb = s.vb := rfl
@[simp] theorem State.holdInReset_run (s : State) (k : ResetKind) : (s.holdInReset k).run = .inReset k := rfl
@[simp] theorem State.holdInReset_iDelay (s : State) (k : ResetKind) : (s.holdInReset k).iDelay = s.iDelay := rfl
@[simp] theorem State.holdInReset_stale (s : State) (k : ResetKind) : (s.holdInReset k).stale = s.stale := rfl
@[simp] theorem State.holdInReset_inputs (s : State) (k : ResetKind) : (s.holdInReset k).inputs = s.inputs := rfl
@[simp] theorem State.holdInReset_device (s : State) (k : ResetKind) : (s.holdInReset k).device = s.device := rfl
@[simp] theorem State.holdInReset_free (s : State) (k : ResetKind) : (s.holdInReset k).free = s.free := rfl

/-- A step none of whose accesses is illegal is the step of its sample. -/
theorem step_permitted (s : State) (h : Permitted s) : step s = stepWith (nextInput s) s.nextSample := by
  have hi : illegalAccess (nextInput s) s.nextSample = false := h
  show guardedStep (nextInput s) s.nextSample = _
  simp only [guardedStep, hi, Bool.false_eq_true, if_false]

/-- A device that declares no access illegal permits every step. -/
theorem permitted_of_none (s : State) (h : s.device.illegal = []) : Permitted s := by
  simp [Permitted, illegalAccess, h]

/-- A step with an illegal access begins a system reset (60_exceptions.md R851). -/
theorem step_illegal (s : State) (h : ¬ Permitted s) : ∃ t, step s = .next t ∧ t.run = .inReset .system := by
  have hi : illegalAccess (nextInput s) s.nextSample = true := by simpa [Permitted] using h
  show ∃ t, guardedStep (nextInput s) s.nextSample = .next t ∧ _
  simp only [guardedStep, hi, if_true]
  cases stepWith (nextInput s) s.nextSample <;> exact ⟨_, rfl, rfl⟩

/-- What a held reset makes of memory (70_reset_and_hazards.md R902). -/
theorem holdInReset_memory (s : State) (k : ResetKind) : MemoryReset k s (s.holdInReset k) := by
  intro key hk
  have h : Memory.read (s.holdInReset k).mem key = s.byteAfterReset k key := by
    show Memory.read (s.memoryAfterReset k) key = _
    unfold State.memoryAfterReset
    rw [Memory.read_tabulate _ _ _ _ (by omega), if_pos ⟨Nat.zero_le _, by omega⟩]
  rw [h, State.byteAfterReset]
  split <;> simp_all

/-- A held reset leaves memory in its canonical form. -/
theorem wf_holdInReset (s : State) (k : ResetKind) : MemoryForm (s.holdInReset k) :=
  Memory.wfFrom_tabulate _ 0 _ (by omega)

/-- All that holding in reset does besides memory. -/
theorem holdInReset_same (s : State) (k : ResetKind) :
    (s.holdInReset k).run = .inReset k ∧ SameExcept [.run] s (s.holdInReset k) := by
  refine ⟨rfl, ?_⟩
  intro f hf
  cases f <;> first | rfl | (exfalso; revert hf; decide)

end Sys2Proof.Machine
end

