-- ==== Sys2Proof/Tests/Slice0.lean ====
section
/-! SUPPORT. The tests of the model: words written out from the spec's encodings, ill-formed terms that the checks refuse, single
steps from 95_test_vectors.md, and for every statement with hypotheses a state and operands that meet them. -/

namespace Sys2Proof.Tests

open Sys2Proof Sys2Proof.Machine Sys2Proof.Safety

/-! ## Helpers -/

/-- The defaults of 95_test_vectors.md: SP = $2000, PC = $1000, CCR = $D0. -/
def start : State := { State.reset with sp := 0x2000, pc := 0x1000 }

/-- Bytes of code at PC and bytes of data at their addresses. -/
def place (code : List Nat) (data : List (Nat × Nat)) (s : State) : State :=
  let cells := ((List.range code.length).zip code).map (fun c => (s.pc.toNat + c.1, c.2)) ++ data
  { s with mem := cells.foldl (fun m c => Memory.write m c.1 (BitVec.ofNat 8 c.2)) s.mem }

/-- The byte of memory at a physical address, as a number. -/
def byteAt (s : State) (k : Nat) : Nat := (Memory.read s.mem k).toNat

/-- One step answers a next state that shows the expected numbers. -/
def stepShows (s : State) (look : State → List Nat) (seen : List Nat) : Bool :=
  match step s with
  | .next t => decide (look t = seen)
  | .fault _ => false
  | .refused _ => false

/-- Every word decodes to the instruction beside it, and nothing of it is left over. -/
def allDecode (rows : List (List Byte × Instr)) : Bool :=
  rows.all fun r =>
    match decode r.1 with
    | .ok (i, []) => decide (i = r.2)
    | .ok (_, _ :: _) => false
    | .error _ => false

/-! ## Words from opcode_table.json, operands by 30_encoding.md R102, R103 and 31_indexed_postbyte.md R141 to R151 -/

theorem test_words_loads_and_stores_1 : allDecode [
    ([0x86, 0xA5], .ldaa (.imm 0xA5)), ([0xD6, 0x37], .ldab (.mem (.dir 0x37))),
    ([0xCC, 0x9B, 0x46], .ldd (.imm 0x9B46)), ([0xDF, 0x37], .lds (.mem (.dir 0x37))),
    ([0xFE, 0x12, 0xC4], .ldx (.mem (.ext 0x12C4))), ([0xED, 0x58], .ldy (.mem (.idx (.off5 .y 0x18)))),
    ([0x5A, 0x37], .staa (.dir 0x37)), ([0x7B, 0x12, 0xC4], .stab (.ext 0x12C4)),
    ([0x6C, 0x31], .std (.idx (.auto .x true 1))), ([0x5F, 0x37], .sts (.dir 0x37)),
    ([0x7E, 0x12, 0xC4], .stx (.ext 0x12C4)), ([0x6D, 0xE9, 0xEC], .sty (.idx (.off9 .y 0x1EC))),
    ([0x1B, 0xAF], .leas (.auto .sp false 15)), ([0x1A, 0xFA, 0x12, 0x34], .leax (.off16 .pc 0x1234)),
    ([0x19, 0xED], .leay (.acc .y .b)), ([0x18, 0x96, 0x37], .gldaa (.dir 0x37)),
    ([0x18, 0xF6, 0x12, 0xC4], .gldab (.ext 0x12C4)), ([0x18, 0xEC, 0xFF], .gldd (.idx (.indD .pc))),
    ([0x18, 0xDF, 0x37], .glds (.dir 0x37)), ([0x18, 0xFE, 0x12, 0xC4], .gldx (.ext 0x12C4)),
    ([0x18, 0xED, 0xF6], .gldy (.idx (.acc .sp .d))), ([0x18, 0x5A, 0x37], .gstaa (.dir 0x37)),
    ([0x18, 0x7B, 0x12, 0xC4], .gstab (.ext 0x12C4)), ([0x18, 0x6C, 0xC1], .gstd (.idx (.off5 .pc 1))),
    ([0x18, 0x5F, 0x37], .gsts (.dir 0x37)), ([0x18, 0x7E, 0x12, 0xC4], .gstx (.ext 0x12C4))] = true := by decide

theorem test_words_loads_and_stores_2 : allDecode [
    ([0x18, 0x6D, 0xE4], .gsty (.idx (.acc .x .a)))] = true := by decide

theorem test_words_additions : allDecode [
    ([0x18, 0x06], .aba), ([0xB9, 0x12, 0xC4], .adca (.mem (.ext 0x12C4))),
    ([0xE9, 0xF0, 0x7F], .adcb (.mem (.idx (.off9 .sp 0x07F)))), ([0x8B, 0xA5], .adda (.imm 0xA5)),
    ([0xDB, 0x37], .addb (.mem (.dir 0x37))), ([0xC3, 0x9B, 0x46], .addd (.imm 0x9B46)),
    ([0x18, 0x8B, 0x9B, 0x46], .addx (.imm 0x9B46)), ([0x18, 0xDB, 0x37], .addy (.mem (.dir 0x37))),
    ([0x18, 0xF3, 0x12, 0xC4], .aded (.mem (.ext 0x12C4))),
    ([0x18, 0xA9, 0x68], .adex (.mem (.idx (.auto .y false 8)))), ([0x18, 0xC9, 0x9B, 0x46], .adey (.imm 0x9B46))] = true := by decide

theorem test_words_subtractions_and_compares : allDecode [
    ([0x18, 0x16], .sba), ([0xB2, 0x12, 0xC4], .sbca (.mem (.ext 0x12C4))),
    ([0xE2, 0xF3, 0xFF, 0xFE], .sbcb (.mem (.idx (.ind16 .sp 0xFFFE)))), ([0x80, 0xA5], .suba (.imm 0xA5)),
    ([0xD0, 0x37], .subb (.mem (.dir 0x37))), ([0x93, 0x37], .subd (.mem (.dir 0x37))),
    ([0x18, 0x90, 0x37], .subx (.mem (.dir 0x37))), ([0x18, 0xF0, 0x12, 0xC4], .suby (.mem (.ext 0x12C4))),
    ([0x18, 0xA3, 0xE7], .sbed (.mem (.idx (.indD .x)))), ([0x18, 0x82, 0x9B, 0x46], .sbex (.imm 0x9B46)),
    ([0x18, 0xD2, 0x37], .sbey (.mem (.dir 0x37))), ([0x18, 0x17], .cba),
    ([0xB1, 0x12, 0xC4], .cmpa (.mem (.ext 0x12C4))),
    ([0xE1, 0xEA, 0x80, 0x00], .cmpb (.mem (.idx (.off16 .y 0x8000)))),
    ([0xBC, 0x12, 0xC4], .cpd (.mem (.ext 0x12C4))), ([0xAF, 0x58], .cps (.mem (.idx (.off5 .y 0x18)))),
    ([0x8E, 0x9B, 0x46], .cpx (.imm 0x9B46)), ([0x9D, 0x37], .cpy (.mem (.dir 0x37))),
    ([0x18, 0xBC, 0x12, 0xC4], .cped (.mem (.ext 0x12C4))),
    ([0x18, 0xAF, 0x31], .cpes (.mem (.idx (.auto .x true 1)))), ([0x18, 0x8E, 0x9B, 0x46], .cpex (.imm 0x9B46)),
    ([0x18, 0x9D, 0x37], .cpey (.mem (.dir 0x37))), ([0x18, 0x07], .daa)] = true := by decide

theorem test_words_logic : allDecode [
    ([0x84, 0xA5], .anda (.imm 0xA5)), ([0xD4, 0x37], .andb (.mem (.dir 0x37))),
    ([0x18, 0xB4, 0x12, 0xC4], .andx (.mem (.ext 0x12C4))),
    ([0x18, 0xE4, 0xE9, 0xEC], .andy (.mem (.idx (.off9 .y 0x1EC)))),
    ([0xB5, 0x12, 0xC4], .bita (.mem (.ext 0x12C4))),
    ([0xE5, 0xE3, 0x00, 0x0A], .bitb (.mem (.idx (.ind16 .x 0x000A)))),
    ([0x18, 0x85, 0x9B, 0x46], .bitx (.imm 0x9B46)), ([0x18, 0xD5, 0x37], .bity (.mem (.dir 0x37))),
    ([0x88, 0xA5], .eora (.imm 0xA5)), ([0xD8, 0x37], .eorb (.mem (.dir 0x37))),
    ([0x18, 0xB8, 0x12, 0xC4], .eorx (.mem (.ext 0x12C4))),
    ([0x18, 0xE8, 0xAF], .eory (.mem (.idx (.auto .sp false 15)))), ([0xBA, 0x12, 0xC4], .oraa (.mem (.ext 0x12C4))),
    ([0xEA, 0xFA, 0x12, 0x34], .orab (.mem (.idx (.off16 .pc 0x1234)))),
    ([0x18, 0x8A, 0x9B, 0x46], .orx (.imm 0x9B46)), ([0x18, 0xDA, 0x37], .ory (.mem (.dir 0x37))),
    ([0x4D, 0x37, 0x42], .bclr (.dir 0x37) 0x42), ([0x1C, 0x12, 0xC4, 0x42], .bset (.ext 0x12C4) 0x42),
    ([0x18, 0x35, 0x37, 0x42], .btas (.dir 0x37) 0x42)] = true := by decide

theorem test_words_clear_to_test_1 : allDecode [
    ([0x79, 0x12, 0xC4], .clr (.ext 0x12C4)), ([0x87], .clra), ([0xC7], .clrb),
    ([0x18, 0x79, 0x12, 0xC4], .clrw (.ext 0x12C4)), ([0x18, 0x87], .clrx), ([0x18, 0xC7], .clry),
    ([0x61, 0xED], .com (.idx (.acc .y .b))), ([0x41], .coma), ([0x51], .comb),
    ([0x18, 0x61, 0xFF], .comw (.idx (.indD .pc))), ([0x18, 0x41], .comx), ([0x18, 0x51], .comy),
    ([0x70, 0x12, 0xC4], .neg (.ext 0x12C4)), ([0x40], .nega), ([0x50], .negb),
    ([0x18, 0x70, 0x12, 0xC4], .negw (.ext 0x12C4)), ([0x18, 0x40], .negx), ([0x18, 0x50], .negy),
    ([0x63, 0xF6], .dec (.idx (.acc .sp .d))), ([0x43], .deca), ([0x53], .decb),
    ([0x18, 0x63, 0xC1], .decw (.idx (.off5 .pc 1))), ([0x18, 0x43], .decx), ([0x18, 0x53], .decy), ([0x09], .dex),
    ([0x03], .dey)] = true := by decide

theorem test_words_clear_to_test_2 : allDecode [
    ([0x72, 0x12, 0xC4], .inc (.ext 0x12C4)), ([0x42], .inca), ([0x52], .incb),
    ([0x18, 0x72, 0x12, 0xC4], .incw (.ext 0x12C4)), ([0x18, 0x42], .incx), ([0x18, 0x52], .incy), ([0x08], .inx),
    ([0x02], .iny), ([0xE7, 0xE4], .tst (.idx (.acc .x .a))), ([0x97], .tsta), ([0xD7], .tstb),
    ([0x18, 0xE7, 0xF0, 0x7F], .tstw (.idx (.off9 .sp 0x07F))), ([0x18, 0x97], .tstx), ([0x18, 0xD7], .tsty)] = true := by decide

theorem test_words_shifts_1 : allDecode [
    ([0x78, 0x12, 0xC4], .asl (.ext 0x12C4)), ([0x48], .asla), ([0x58], .aslb), ([0x59], .asld),
    ([0x18, 0x78, 0x12, 0xC4], .aslw (.ext 0x12C4)), ([0x18, 0x48], .aslx), ([0x18, 0x58], .asly),
    ([0x67, 0x68], .asr (.idx (.auto .y false 8))), ([0x47], .asra), ([0x57], .asrb),
    ([0x18, 0x67, 0xF3, 0xFF, 0xFE], .asrw (.idx (.ind16 .sp 0xFFFE))), ([0x18, 0x47], .asrx), ([0x18, 0x57], .asry),
    ([0x74, 0x12, 0xC4], .lsr (.ext 0x12C4)), ([0x44], .lsra), ([0x54], .lsrb), ([0x49], .lsrd),
    ([0x18, 0x74, 0x12, 0xC4], .lsrw (.ext 0x12C4)), ([0x18, 0x44], .lsrx), ([0x18, 0x54], .lsry),
    ([0x65, 0xE7], .rol (.idx (.indD .x))), ([0x45], .rola), ([0x55], .rolb),
    ([0x18, 0x65, 0xEA, 0x80, 0x00], .rolw (.idx (.off16 .y 0x8000))), ([0x18, 0x45], .rolx), ([0x18, 0x55], .roly)] = true := by decide

theorem test_words_shifts_2 : allDecode [
    ([0x76, 0x12, 0xC4], .ror (.ext 0x12C4)), ([0x46], .rora), ([0x56], .rorb),
    ([0x18, 0x76, 0x12, 0xC4], .rorw (.ext 0x12C4)), ([0x18, 0x46], .rorx), ([0x18, 0x56], .rory)] = true := by decide

theorem test_words_multiply_to_table : allDecode [
    ([0x12], .mul), ([0x13], .emul), ([0x18, 0x13], .emuls), ([0x18, 0x12, 0x12, 0xC4], .emacs 0x12C4),
    ([0x11], .ediv), ([0x18, 0x14], .edivs), ([0x18, 0x10], .idiv), ([0x18, 0x15], .idivs), ([0x18, 0x11], .fdiv),
    ([0x18, 0x18, 0x58], .maxa (.off5 .y 0x18)), ([0x18, 0x1C, 0x31], .maxm (.auto .x true 1)),
    ([0x18, 0x19, 0xE9, 0xEC], .mina (.off9 .y 0x1EC)), ([0x18, 0x1D, 0xE3, 0x00, 0x0A], .minm (.ind16 .x 0x000A)),
    ([0x18, 0x1A, 0xAF], .emaxd (.auto .sp false 15)), ([0x18, 0x1E, 0xFA, 0x12, 0x34], .emaxm (.off16 .pc 0x1234)),
    ([0x18, 0x1B, 0xED], .emind (.acc .y .b)), ([0x18, 0x1F, 0xFF], .eminm (.indD .pc)),
    ([0x18, 0x3D, 0xF6], .tbl (.acc .sp .d)), ([0x18, 0x3F, 0xC1], .etbl (.off5 .pc 1))] = true := by decide

theorem test_words_short_branches : allDecode [
    ([0x24, 0xF2], .bcc 0xF2), ([0x25, 0xF2], .bcs 0xF2), ([0x27, 0xF2], .beq 0xF2), ([0x2C, 0xF2], .bge 0xF2),
    ([0x2E, 0xF2], .bgt 0xF2), ([0x22, 0xF2], .bhi 0xF2), ([0x2F, 0xF2], .ble 0xF2), ([0x23, 0xF2], .bls 0xF2),
    ([0x2D, 0xF2], .blt 0xF2), ([0x2B, 0xF2], .bmi 0xF2), ([0x26, 0xF2], .bne 0xF2), ([0x2A, 0xF2], .bpl 0xF2),
    ([0x20, 0xF2], .bra 0xF2), ([0x21, 0xF2], .brn 0xF2), ([0x28, 0xF2], .bvc 0xF2), ([0x29, 0xF2], .bvs 0xF2)] = true := by decide

theorem test_words_long_branches : allDecode [
    ([0x18, 0x24, 0xFE, 0x81], .lbcc 0xFE81), ([0x18, 0x25, 0xFE, 0x81], .lbcs 0xFE81),
    ([0x18, 0x27, 0xFE, 0x81], .lbeq 0xFE81), ([0x18, 0x2C, 0xFE, 0x81], .lbge 0xFE81),
    ([0x18, 0x2E, 0xFE, 0x81], .lbgt 0xFE81), ([0x18, 0x22, 0xFE, 0x81], .lbhi 0xFE81),
    ([0x18, 0x2F, 0xFE, 0x81], .lble 0xFE81), ([0x18, 0x23, 0xFE, 0x81], .lbls 0xFE81),
    ([0x18, 0x2D, 0xFE, 0x81], .lblt 0xFE81), ([0x18, 0x2B, 0xFE, 0x81], .lbmi 0xFE81),
    ([0x18, 0x26, 0xFE, 0x81], .lbne 0xFE81), ([0x18, 0x2A, 0xFE, 0x81], .lbpl 0xFE81),
    ([0x18, 0x20, 0xFE, 0x81], .lbra 0xFE81), ([0x18, 0x21, 0xFE, 0x81], .lbrn 0xFE81),
    ([0x18, 0x28, 0xFE, 0x81], .lbvc 0xFE81), ([0x18, 0x29, 0xFE, 0x81], .lbvs 0xFE81)] = true := by decide

theorem test_words_jumps_and_stack : allDecode [
    ([0x4F, 0x37, 0x42, 0xF2], .brclr (.dir 0x37) 0x42 0xF2),
    ([0x1E, 0x12, 0xC4, 0x42, 0xF2], .brset (.ext 0x12C4) 0x42 0xF2), ([0x05, 0xE4], .jmp (.idx (.acc .x .a))),
    ([0x17, 0x37], .jsr (.dir 0x37)), ([0x07, 0xF2], .bsr 0xF2), ([0x0A], .rtc), ([0x3D], .rts), ([0x36], .psha),
    ([0x37], .pshb), ([0x39], .pshc), ([0x18, 0x39], .pshcw), ([0x3B], .pshd), ([0x34], .pshx), ([0x35], .pshy),
    ([0x32], .pula), ([0x33], .pulb), ([0x38], .pulc), ([0x18, 0x38], .pulcw), ([0x3A], .puld), ([0x30], .pulx),
    ([0x31], .puly)] = true := by decide

theorem test_words_condition_codes_system_fuzzy : allDecode [
    ([0x10, 0xA5], .andcc 0xA5), ([0x14, 0xA5], .orcc 0xA5), ([0xA7], .nop), ([0x00], .bgnd), ([0x3F], .swi),
    ([0x0B], .rti), ([0x18, 0x3E], .stop), ([0x3E], .wai), ([0x01], .mem), ([0x18, 0x3A], .rev),
    ([0x18, 0x3B], .revw), ([0x18, 0x3C], .wav), ([0x18, 0x0E], .tab), ([0x18, 0x0F], .tba), ([0x3C], .wavr)] = true := by decide

theorem test_words_loops_transfers_traps : allDecode [
    ([0x04, 0x04, 0x10], .dbeq .d 0x010), ([0x04, 0x31, 0xFB], .dbne .b 0x1FB), ([0x04, 0x95, 0x80], .ibeq .x 0x180),
    ([0x04, 0xA6, 0x7F], .ibne .y 0x07F), ([0x04, 0x57, 0x00], .tbeq .sp 0x100), ([0x04, 0x60, 0x01], .tbne .a 0x001),
    ([0xB7, 0x01], .tfr false .a .b), ([0xB7, 0x6A], .tfr true .y .ccr), ([0xB7, 0xC5], .exg false .d .x),
    ([0xB7, 0x8F], .exg true .a .sp), ([0xB7, 0x3E], .tfr true .tmp .y), ([0x18, 0x30], .trap 0x30),
    ([0x18, 0xCF], .trap 0xCF), ([0x18, 0xA7], .trap 0xA7)] = true := by decide

theorem test_words_calls_and_moves : allDecode [
    ([0x4A, 0x80, 0x00, 0x07], .call (.ext 0x8000 0x07)),
    ([0x4B, 0xFA, 0x12, 0x34, 0x1D], .call (.idx (.off16 .pc 0x1234) 0x1D)),
    ([0x4B, 0xE3, 0x00, 0x0A], .call (.ind (.ind16 .x 0x000A))), ([0x4B, 0xFF], .call (.ind (.indD .pc))),
    ([0x18, 0x0B, 0xA5, 0x12, 0xC4], .movb (.imm 0xA5) (.ext 0x12C4)),
    ([0x18, 0x08, 0x31, 0xA5], .movb (.imm 0xA5) (.idx (.auto .x true 1))),
    ([0x18, 0x0C, 0x12, 0xC4, 0x56, 0x78], .movb (.mem (.ext 0x12C4)) (.ext 0x5678)),
    ([0x18, 0x09, 0xE9, 0xEC, 0x12, 0xC4], .movb (.mem (.ext 0x12C4)) (.idx (.off9 .y 0x1EC))),
    ([0x18, 0x0D, 0xFA, 0x12, 0x34, 0x56, 0x78], .movb (.mem (.idx (.off16 .pc 0x1234))) (.ext 0x5678)),
    ([0x18, 0x0A, 0xE3, 0x00, 0x0A, 0xF6], .movb (.mem (.idx (.ind16 .x 0x000A))) (.idx (.acc .sp .d))),
    ([0x18, 0x03, 0x9B, 0x46, 0x12, 0xC4], .movw (.imm 0x9B46) (.ext 0x12C4)),
    ([0x18, 0x00, 0xFA, 0x12, 0x34, 0x9B, 0x46], .movw (.imm 0x9B46) (.idx (.off16 .pc 0x1234))),
    ([0x18, 0x04, 0x12, 0xC4, 0x56, 0x78], .movw (.mem (.ext 0x12C4)) (.ext 0x5678)),
    ([0x18, 0x01, 0xAF, 0x12, 0xC4], .movw (.mem (.ext 0x12C4)) (.idx (.auto .sp false 15))),
    ([0x18, 0x05, 0xFF, 0x56, 0x78], .movw (.mem (.idx (.indD .pc))) (.ext 0x5678)),
    ([0x18, 0x02, 0xFA, 0x12, 0x34, 0xF3, 0xFF, 0xFE], .movw (.mem (.idx (.off16 .pc 0x1234))) (.idx (.ind16 .sp 0xFFFE)))] = true := by decide

/-- A second name has the object code of its core instruction (30_encoding.md R111), which the decoder answers. -/
def allNamed (rows : List (List Byte × Instr)) : Bool :=
  rows.all fun r => decide (encode r.2 = r.1) && allDecode [(r.1, r.2.canon)]

theorem test_words_of_second_names : allNamed [
    ([0x1A, 0xE5], .abx), ([0x19, 0xED], .aby), ([0x1B, 0x9F], .des), ([0x1B, 0x81], .ins),
    ([0x78, 0x12, 0xC4], .lsl (.ext 0x12C4)), ([0x48], .lsla), ([0x58], .lslb), ([0x59], .lsld),
    ([0x18, 0x78, 0x12, 0xC4], .lslw (.ext 0x12C4)), ([0x18, 0x48], .lslx), ([0x18, 0x58], .lsly),
    ([0x24, 0xF2], .bhs 0xF2), ([0x25, 0xF2], .blo 0xF2), ([0x18, 0x24, 0xFE, 0x81], .lbhs 0xFE81),
    ([0x18, 0x25, 0xFE, 0x81], .lblo 0xFE81), ([0x10, 0xFE], .clc), ([0x10, 0xEF], .cli), ([0x10, 0xFD], .clv),
    ([0x14, 0x01], .sec), ([0x14, 0x10], .sei), ([0x14, 0x02], .sev), ([0xB7, 0x14], .sex (.byte .b .d)),
    ([0xB7, 0x02], .tap), ([0xB7, 0x20], .tpa), ([0xB7, 0x75], .tsx), ([0xB7, 0x76], .tsy), ([0xB7, 0x57], .txs),
    ([0xB7, 0x67], .tys), ([0xB7, 0xC5], .xgdx), ([0xB7, 0xC6], .xgdy), ([0xB7, 0x0C], .sex .aToD),
    ([0xB7, 0x1C], .sex .bToD), ([0xB7, 0x4D], .sex .dToX), ([0xB7, 0x4E], .sex .dToY),
    ([0xB7, 0x23], .sex (.byte .ccr .tmp2)), ([0xB7, 0x07], .sex (.byte .a .sp))] = true := by decide

theorem test_loop_bit_3_is_ignored : allDecode [([0x04, 0x39, 0xFB], .dbne .b 0x1FB)] = true := by decide

theorem test_reserved_bytes_refused :
    decode [0x04, 0xC0, 0x00] = .error .reservedLoopCode ∧ decode [0x04, 0x02, 0x00] = .error .reservedLoopCode ∧
    decode [0x18, 0x3D, 0xE0, 0x00] = .error .reservedPostbyte ∧ decode [0x1A, 0xE7] = .error .reservedPostbyte ∧
    decode [0x4C, 0x40] = .error .truncated := ⟨rfl, rfl, rfl, rfl, rfl⟩

theorem test_table_word_numbering :
    decodeTableWord 8 0x86 = some (.ldaa (.imm 0)) ∧ decodeTableWord 16 0x188E = some (.cpex (.imm 0)) := by decide

/-! ## Ill-formed terms that WellFormed refuses, one for each check -/

theorem test_lea_refuses_indirect : (Instr.leas (.indD .x)).wf = false ∧ (Instr.leax (.ind16 .x 0)).wf = false ∧
    (Instr.leay (.indD .pc)).wf = false := by decide
theorem test_bit_instructions_refuse_indirect : (Instr.bset (.idx (.indD .x)) 1).wf = false ∧
    (Instr.bclr (.idx (.ind16 .sp 0)) 1).wf = false ∧ (Instr.btas (.idx (.indD .y)) 1).wf = false ∧
    (Instr.brset (.idx (.indD .x)) 1 0).wf = false ∧ (Instr.brclr (.idx (.ind16 .x 0)) 1 0).wf = false := by decide
theorem test_tables_refuse_extension : (Instr.tbl (.off9 .x 0)).wf = false ∧ (Instr.etbl (.off16 .x 0)).wf = false ∧
    (Instr.tbl (.indD .x)).wf = false ∧ (Instr.etbl (.ind16 .x 0)).wf = false := by decide
theorem test_call_refuses_crossed_forms : (Instr.call (.idx (.indD .x) 0)).wf = false ∧
    (Instr.call (.ind (.off5 .x 0))).wf = false := by decide
theorem test_trap_refuses_implemented : (Instr.trap 0x00).wf = false ∧ (Instr.trap 0x3E).wf = false := by decide
theorem test_ill_formed_term_refused : exec (.trap 0x00) start = .refused .reservedForm := rfl

/-! ## Single steps, the rows of 95_test_vectors.md -/

/-- B.1: LDAA 8,X-. -/
theorem test_ldaa_postdecrement_wraps :
    stepShows (place [0xA6, 0x38] [(0x0004, 0x22)] { start with x := 0x04 })
      (fun t => [t.a.toNat, t.x.toNat, t.ccr.toNat, t.pc.toNat])
      [0x22, 0xFFFC, 0xD0, 0x1002] = true := by decide

/-- B.1: LDAA [$0010,Y]. -/
theorem test_ldaa_indirect :
    stepShows (place [0xA6, 0xEB, 0x00, 0x10] [(0x3010, 0x40), (0x3011, 0x00), (0x4000, 0x55)] { start with y := 0x3000 })
      (fun t => [t.a.toNat, t.ccr.toNat, t.pc.toNat])
      [0x55, 0xD0, 0x1004] = true := by decide

/-- B.1: LEAX 2,X+. -/
theorem test_leax_postincrement :
    stepShows (place [0x1A, 0x31] [] { start with x := 0x3000 })
      (fun t => [t.x.toNat, t.ccr.toNat, t.pc.toNat])
      [0x3000, 0xD0, 0x1002] = true := by decide

/-- B.1: STS 2,-SP. -/
theorem test_sts_predecrement :
    stepShows (place [0x6F, 0xAE] [] start)
      (fun t => [t.sp.toNat, t.ccr.toNat, t.pc.toNat, byteAt t 0x1FFE, byteAt t 0x1FFF])
      [0x1FFE, 0xD0, 0x1002, 0x1F, 0xFE] = true := by decide

/-- B.2: LDY $FF. -/
theorem test_ldy_direct_crosses_page :
    stepShows (place [0xDD, 0xFF] [(0x12FF, 0xAA), (0x1300, 0xBB)] { start with direct := 0x12 })
      (fun t => [t.y.toNat, t.ccr.toNat, t.pc.toNat])
      [0xAABB, 0xD8, 0x1002] = true := by decide

/-- B.2: STD $3001. -/
theorem test_std_misaligned :
    stepShows (place [0x7C, 0x30, 0x01] [] { start with a := 0x80, b := 0x01 })
      (fun t => [t.ccr.toNat, t.pc.toNat, byteAt t 0x3001, byteAt t 0x3002])
      [0xD8, 0x1003, 0x80, 0x01] = true := by decide

/-- B.2: STY 0,X. -/
theorem test_sty_wraps :
    stepShows (place [0x6D, 0x00] [] { start with x := 0xFFFF, y := 0xA55A })
      (fun t => [t.ccr.toNat, t.pc.toNat, byteAt t 0xFFFF, byteAt t 0x0000])
      [0xD8, 0x1002, 0xA5, 0x5A] = true := by decide

/-- B.2: ABX. -/
theorem test_abx_wraps :
    stepShows (place [0x1A, 0xE5] [] { start with b := 0xFF, x := 0xFF02 })
      (fun t => [t.x.toNat, t.ccr.toNat, t.pc.toNat])
      [0x0001, 0xD0, 0x1002] = true := by decide

/-- B.2: MOVW 4,PC,$0100,Y (IDX2 dest). -/
theorem test_movw_pc_source :
    stepShows (place [0x18, 0x02, 0xC4, 0xEA, 0x01, 0x00] [(0x1008, 0xCA), (0x1009, 0xFE)] { start with y := 0x3000 })
      (fun t => [t.ccr.toNat, t.pc.toNat, byteAt t 0x3100, byteAt t 0x3101])
      [0xD0, 0x1006, 0xCA, 0xFE] = true := by decide

/-- B.2: MOVB 1,X+,1,X+. -/
theorem test_movb_same_pointer :
    stepShows (place [0x18, 0x0A, 0x30, 0x30] [(0x3000, 0x77)] { start with x := 0x3000 })
      (fun t => [t.x.toNat, t.ccr.toNat, t.pc.toNat, byteAt t 0x3001])
      [0x3002, 0xD0, 0x1004, 0x77] = true := by decide

/-- B.2: GLDD $FFFF. -/
theorem test_gldd_no_page_carry :
    stepShows (place [0x18, 0xFC, 0xFF, 0xFF] [(0xFFFFFF, 0x12), (0xFF0000, 0x34)] { start with gpage := 0x7F })
      (fun t => [t.a.toNat, t.b.toNat, t.ccr.toNat, t.pc.toNat])
      [0x12, 0x34, 0xD0, 0x1004] = true := by decide

/-- B.2: GSTAB 0,X. -/
theorem test_gstab :
    stepShows (place [0x18, 0x6B, 0x00] [] { start with gpage := 0x7F, x := 0x8000, b := 0x80 })
      (fun t => [t.ccr.toNat, t.pc.toNat, byteAt t 0xFF8000])
      [0xD8, 0x1003, 0x80] = true := by decide

/-- B.3: TFR D,CCR. -/
theorem test_tfr_d_ccr :
    stepShows (place [0xB7, 0x42] [] { start with a := 0xFF, b := 0x0F, ccr := 0xD0 })
      (fun t => [t.ccr.toNat, t.pc.toNat])
      [0x0F, 0x1002] = true := by decide

/-- B.3: TFR A,XH. -/
theorem test_tfr_a_xh :
    stepShows (place [0xB7, 0x0D] [] { start with a := 0xAB, x := 0x1234 })
      (fun t => [t.x.toNat, t.ccr.toNat, t.pc.toNat])
      [0xAB34, 0xD0, 0x1002] = true := by decide

/-- B.3: EXG X,B. -/
theorem test_exg_x_b :
    stepShows (place [0xB7, 0xD1] [] { start with b := 0x5A, x := 0x1234 })
      (fun t => [t.b.toNat, t.x.toNat, t.ccr.toNat, t.pc.toNat])
      [0x34, 0xFF5A, 0xD0, 0x1002] = true := by decide

/-- B.3: EXG X,CCRW. -/
theorem test_exg_x_ccrw :
    stepShows (place [0xB7, 0xDA] [] { start with x := 0x300, ccr := 0xD5, ipl := 0x01 })
      (fun t => [t.x.toNat, t.ipl.toNat, t.ccr.toNat, t.pc.toNat])
      [0x01D5, 0x03, 0x00, 0x1002] = true := by decide

/-- B.3: SEX B,D. -/
theorem test_sex_b_d :
    stepShows (place [0xB7, 0x14] [] { start with b := 0x80 })
      (fun t => [t.a.toNat, t.ccr.toNat, t.pc.toNat])
      [0xFF, 0xD0, 0x1002] = true := by decide

/-- B.3: TAB. -/
theorem test_tab :
    stepShows (place [0x18, 0x0E] [] { start with a := 0x80, ccr := 0xD3 })
      (fun t => [t.b.toNat, t.ccr.toNat, t.pc.toNat])
      [0x80, 0xD9, 0x1002] = true := by decide

/-- B.4: ADDA #$01. -/
theorem test_adda_overflow :
    stepShows (place [0x8B, 0x01] [] { start with a := 0x7F })
      (fun t => [t.a.toNat, t.ccr.toNat, t.pc.toNat])
      [0x80, 0xFA, 0x1002] = true := by decide

/-- B.4: ADCB #$0F. -/
theorem test_adcb_half_carry :
    stepShows (place [0xC9, 0x0F] [] { start with b := 0x00, ccr := 0xD1 })
      (fun t => [t.b.toNat, t.ccr.toNat, t.pc.toNat])
      [0x10, 0xF0, 0x1002] = true := by decide

/-- B.4: ADED #$0000. -/
theorem test_aded_sticky_z :
    stepShows (place [0x18, 0xC3, 0x00, 0x00] [] { start with a := 0x00, b := 0x00, ccr := 0xD0 })
      (fun t => [t.ccr.toNat, t.pc.toNat])
      [0xD0, 0x1004] = true := by decide

/-- B.4: SBCA #$00. -/
theorem test_sbca_borrow :
    stepShows (place [0x82, 0x00] [] { start with a := 0x00, ccr := 0xD1 })
      (fun t => [t.a.toNat, t.ccr.toNat, t.pc.toNat])
      [0xFF, 0xD9, 0x1002] = true := by decide

/-- B.4: SUBD #$0001. -/
theorem test_subd_overflow :
    stepShows (place [0x83, 0x00, 0x01] [] { start with a := 0x80, b := 0x00 })
      (fun t => [t.a.toNat, t.b.toNat, t.ccr.toNat, t.pc.toNat])
      [0x7F, 0xFF, 0xD2, 0x1003] = true := by decide

/-- B.4: CPY 0,X. -/
theorem test_cpy_overflow :
    stepShows (place [0xAD, 0x00] [(0x3000, 0x7F), (0x3001, 0xFF)] { start with x := 0x3000, y := 0x8000 })
      (fun t => [t.ccr.toNat, t.pc.toNat])
      [0xD2, 0x1002] = true := by decide

/-- B.4: CPED #$0000. -/
theorem test_cped_sticky_z :
    stepShows (place [0x18, 0x8C, 0x00, 0x00] [] { start with a := 0x00, b := 0x01, ccr := 0xD5 })
      (fun t => [t.ccr.toNat, t.pc.toNat])
      [0xD4, 0x1004] = true := by decide

/-- B.4: CMPA #$80. -/
theorem test_cmpa :
    stepShows (place [0x81, 0x80] [] { start with a := 0x7F })
      (fun t => [t.ccr.toNat, t.pc.toNat])
      [0xDB, 0x1002] = true := by decide

/-- B.5: EORX 0,Y. -/
theorem test_eorx :
    stepShows (place [0x18, 0xA8, 0x40] [(0x3000, 0xFF), (0x3001, 0xFF)] { start with x := 0xFFFF, y := 0x3000 })
      (fun t => [t.x.toNat, t.ccr.toNat, t.pc.toNat])
      [0x0000, 0xD4, 0x1003] = true := by decide

/-- B.5: BCLR $40,#$0F. -/
theorem test_bclr :
    stepShows (place [0x4D, 0x40, 0x0F] [(0x0040, 0xFF)] start)
      (fun t => [t.ccr.toNat, t.pc.toNat, byteAt t 0x0040])
      [0xD8, 0x1003, 0xF0] = true := by decide

/-- B.5: BSET 1,X+,#$01. -/
theorem test_bset_postincrement :
    stepShows (place [0x0C, 0x30, 0x01] [(0x3000, 0x80)] { start with x := 0x3000 })
      (fun t => [t.x.toNat, t.ccr.toNat, t.pc.toNat, byteAt t 0x3000])
      [0x3001, 0xD8, 0x1003, 0x81] = true := by decide

/-- B.5: BTAS $3000,#$01. -/
theorem test_btas_flags_before_set :
    stepShows (place [0x18, 0x36, 0x30, 0x00, 0x01] [(0x3000, 0x00)] start)
      (fun t => [t.ccr.toNat, t.pc.toNat, byteAt t 0x3000])
      [0xD4, 0x1005, 0x01] = true := by decide

/-- B.5: BITB #$80. -/
theorem test_bitb :
    stepShows (place [0xC5, 0x80] [] { start with b := 0x80 })
      (fun t => [t.ccr.toNat, t.pc.toNat])
      [0xD8, 0x1002] = true := by decide

/-- B.6: INCW 0,X. -/
theorem test_incw_overflow :
    stepShows (place [0x18, 0x62, 0x00] [(0x3000, 0x7F), (0x3001, 0xFF)] { start with x := 0x3000 })
      (fun t => [t.ccr.toNat, t.pc.toNat, byteAt t 0x3000, byteAt t 0x3001])
      [0xDA, 0x1003, 0x80, 0x00] = true := by decide

/-- B.6: DECA. -/
theorem test_deca_overflow :
    stepShows (place [0x43] [] { start with a := 0x80 })
      (fun t => [t.a.toNat, t.ccr.toNat, t.pc.toNat])
      [0x7F, 0xD2, 0x1001] = true := by decide

/-- B.6: INX. -/
theorem test_inx_sets_z_only :
    stepShows (place [0x08] [] { start with x := 0xFFFF, ccr := 0xD9 })
      (fun t => [t.x.toNat, t.ccr.toNat, t.pc.toNat])
      [0x0000, 0xDD, 0x1001] = true := by decide

/-- B.6: NEGW $3000. -/
theorem test_negw_most_negative :
    stepShows (place [0x18, 0x70, 0x30, 0x00] [(0x3000, 0x80), (0x3001, 0x00)] start)
      (fun t => [t.ccr.toNat, t.pc.toNat, byteAt t 0x3000, byteAt t 0x3001])
      [0xDB, 0x1004, 0x80, 0x00] = true := by decide

/-- B.6: COM $3000. -/
theorem test_com :
    stepShows (place [0x71, 0x30, 0x00] [(0x3000, 0x55)] start)
      (fun t => [t.ccr.toNat, t.pc.toNat, byteAt t 0x3000])
      [0xD9, 0x1003, 0xAA] = true := by decide

/-- B.6: CLRW 2,X+. -/
theorem test_clrw :
    stepShows (place [0x18, 0x69, 0x31] [] { start with x := 0x3000 })
      (fun t => [t.x.toNat, t.ccr.toNat, t.pc.toNat, byteAt t 0x3000, byteAt t 0x3001])
      [0x3002, 0xD4, 0x1003, 0x00, 0x00] = true := by decide

/-- B.6: TSTA. -/
theorem test_tsta_clears_c :
    stepShows (place [0x97] [] { start with a := 0x80, ccr := 0xD3 })
      (fun t => [t.ccr.toNat, t.pc.toNat])
      [0xD8, 0x1001] = true := by decide

/-- B.7: ASLW 0,X. -/
theorem test_aslw :
    stepShows (place [0x18, 0x68, 0x00] [(0x3000, 0x40), (0x3001, 0x01)] { start with x := 0x3000 })
      (fun t => [t.ccr.toNat, t.pc.toNat, byteAt t 0x3000, byteAt t 0x3001])
      [0xDA, 0x1003, 0x80, 0x02] = true := by decide

/-- B.7: ASRX. -/
theorem test_asrx :
    stepShows (place [0x18, 0x47] [] { start with x := 0x8001 })
      (fun t => [t.x.toNat, t.ccr.toNat, t.pc.toNat])
      [0xC000, 0xD9, 0x1002] = true := by decide

/-- B.7: LSRD. -/
theorem test_lsrd :
    stepShows (place [0x49] [] { start with a := 0x00, b := 0x01 })
      (fun t => [t.b.toNat, t.ccr.toNat, t.pc.toNat])
      [0x00, 0xD7, 0x1001] = true := by decide

/-- B.7: ROL $3000. -/
theorem test_rol :
    stepShows (place [0x75, 0x30, 0x00] [(0x3000, 0xC0)] start)
      (fun t => [t.ccr.toNat, t.pc.toNat, byteAt t 0x3000])
      [0xD9, 0x1003, 0x80] = true := by decide

/-- B.7: RORW $3000. -/
theorem test_rorw :
    stepShows (place [0x18, 0x76, 0x30, 0x00] [(0x3000, 0x00), (0x3001, 0x01)] { start with ccr := 0xD1 })
      (fun t => [t.ccr.toNat, t.pc.toNat, byteAt t 0x3000, byteAt t 0x3001])
      [0xD9, 0x1004, 0x80, 0x00] = true := by decide

/-- B.8: MUL. -/
theorem test_mul_c_is_bit_7 :
    stepShows (place [0x12] [] { start with a := 0x10, b := 0x08, ccr := 0xDE })
      (fun t => [t.a.toNat, t.b.toNat, t.ccr.toNat, t.pc.toNat])
      [0x00, 0x80, 0xDF, 0x1001] = true := by decide

/-- B.8: EMULS. -/
theorem test_emuls :
    stepShows (place [0x18, 0x13] [] { start with a := 0x80, b := 0x00, y := 0x7FFF })
      (fun t => [t.y.toNat, t.ccr.toNat, t.pc.toNat])
      [0xC000, 0xD9, 0x1002] = true := by decide

/-- B.8: EMACS $3000. -/
theorem test_emacs_overflow :
    stepShows (place [0x18, 0x12, 0x30, 0x00] [(0x3010, 0x7F), (0x3011, 0xFF), (0x3000, 0x7F), (0x3001, 0xFF), (0x3002, 0x00), (0x3003, 0x00)] { start with x := 0x3010, y := 0x3010 })
      (fun t => [t.ccr.toNat, t.pc.toNat, byteAt t 0x3000, byteAt t 0x3001, byteAt t 0x3002, byteAt t 0x3003])
      [0xDA, 0x1004, 0xBF, 0xFE, 0x00, 0x01] = true := by decide

/-- B.8: EDIV. -/
theorem test_ediv :
    stepShows (place [0x11] [] { start with y := 0x01, a := 0x00, b := 0x00, x := 0x03 })
      (fun t => [t.b.toNat, t.y.toNat, t.ccr.toNat, t.pc.toNat])
      [0x01, 0x5555, 0xD0, 0x1001] = true := by decide

/-- B.8: EDIVS. -/
theorem test_edivs_negative :
    stepShows (place [0x18, 0x14] [] { start with y := 0xFFFF, a := 0xFF, b := 0xF9, x := 0x02 })
      (fun t => [t.b.toNat, t.y.toNat, t.ccr.toNat, t.pc.toNat])
      [0xFF, 0xFFFD, 0xD8, 0x1002] = true := by decide

/-- B.8: IDIV. -/
theorem test_idiv_zero_quotient :
    stepShows (place [0x18, 0x10] [] { start with a := 0x00, b := 0x03, x := 0x07, ccr := 0xDB })
      (fun t => [t.x.toNat, t.ccr.toNat, t.pc.toNat])
      [0x0000, 0xDC, 0x1002] = true := by decide

/-- B.8: IDIVS. -/
theorem test_idivs :
    stepShows (place [0x18, 0x15] [] { start with a := 0xFF, b := 0x9C, x := 0x07 })
      (fun t => [t.b.toNat, t.x.toNat, t.ccr.toNat, t.pc.toNat])
      [0xFE, 0xFFF2, 0xD8, 0x1002] = true := by decide

/-- B.8: FDIV. -/
theorem test_fdiv :
    stepShows (place [0x18, 0x11] [] { start with a := 0x00, b := 0x01, x := 0x03 })
      (fun t => [t.x.toNat, t.ccr.toNat, t.pc.toNat])
      [0x5555, 0xD0, 0x1002] = true := by decide

/-- B.8: MAXA 0,X. -/
theorem test_maxa :
    stepShows (place [0x18, 0x18, 0x00] [(0x3000, 0x90)] { start with a := 0x40, x := 0x3000 })
      (fun t => [t.a.toNat, t.ccr.toNat, t.pc.toNat])
      [0x90, 0xDB, 0x1003] = true := by decide

/-- B.8: MINM 1,Y+. -/
theorem test_minm :
    stepShows (place [0x18, 0x1D, 0x70] [(0x3000, 0x40)] { start with a := 0x10, y := 0x3000 })
      (fun t => [t.y.toNat, t.ccr.toNat, t.pc.toNat, byteAt t 0x3000])
      [0x3001, 0xD9, 0x1003, 0x10] = true := by decide

/-- B.8: EMIND 0,X. -/
theorem test_emind :
    stepShows (place [0x18, 0x1B, 0x00] [(0x3000, 0x7F), (0x3001, 0xFF)] { start with a := 0x80, b := 0x00, x := 0x3000 })
      (fun t => [t.a.toNat, t.b.toNat, t.ccr.toNat, t.pc.toNat])
      [0x7F, 0xFF, 0xD2, 0x1003] = true := by decide

/-- B.8: TBL 0,X. -/
theorem test_tbl_rounds_down :
    stepShows (place [0x18, 0x3D, 0x00] [(0x3000, 0x11), (0x3001, 0x10)] { start with b := 0x80, x := 0x3000 })
      (fun t => [t.a.toNat, t.ccr.toNat, t.pc.toNat])
      [0x10, 0xD1, 0x1003] = true := by decide

/-- B.8: ETBL 0,X. -/
theorem test_etbl :
    stepShows (place [0x18, 0x3F, 0x00] [(0x3000, 0x80), (0x3001, 0x00), (0x3002, 0x00), (0x3003, 0x00)] { start with b := 0x01, x := 0x3000 })
      (fun t => [t.a.toNat, t.b.toNat, t.ccr.toNat, t.pc.toNat])
      [0x7F, 0x80, 0xD0, 0x1003] = true := by decide

/-- B.9: BRA -128. -/
theorem test_bra_backwards :
    stepShows (place [0x20, 0x80] [] start)
      (fun t => [t.ccr.toNat, t.pc.toNat])
      [0xD0, 0x0F82] = true := by decide

/-- B.9: BGT +16. -/
theorem test_bgt_n_equals_v :
    stepShows (place [0x2E, 0x10] [] { start with ccr := 0xDA })
      (fun t => [t.ccr.toNat, t.pc.toNat])
      [0xDA, 0x1012] = true := by decide

/-- B.9: LBNE -4096. -/
theorem test_lbne :
    stepShows (place [0x18, 0x26, 0xF0, 0x00] [] { start with ccr := 0xD0 })
      (fun t => [t.ccr.toNat, t.pc.toNat])
      [0xD0, 0x0004] = true := by decide

/-- B.9: BRSET $40,#$A1,-16. -/
theorem test_brset :
    stepShows (place [0x4E, 0x40, 0xA1, 0xF0] [(0x0040, 0xA5)] start)
      (fun t => [t.ccr.toNat, t.pc.toNat])
      [0xD0, 0x0FF4] = true := by decide

/-- B.9: BRCLR $3000,#$01,+4. -/
theorem test_brclr :
    stepShows (place [0x1F, 0x30, 0x00, 0x01, 0x04] [(0x3000, 0xA5)] start)
      (fun t => [t.ccr.toNat, t.pc.toNat])
      [0xD0, 0x1005] = true := by decide

/-- B.9: DBEQ A,+5. -/
theorem test_dbeq_wraps :
    stepShows (place [0x04, 0x00, 0x05] [] { start with a := 0x00 })
      (fun t => [t.a.toNat, t.ccr.toNat, t.pc.toNat])
      [0xFF, 0xD0, 0x1003] = true := by decide

/-- B.9: IBNE Y,-256. -/
theorem test_ibne :
    stepShows (place [0x04, 0xB6, 0x00] [] { start with y := 0xFFFE })
      (fun t => [t.y.toNat, t.ccr.toNat, t.pc.toNat])
      [0xFFFF, 0xD0, 0x0F03] = true := by decide

/-- B.9: TBEQ X,+8. -/
theorem test_tbeq :
    stepShows (place [0x04, 0x45, 0x08] [] { start with x := 0x100 })
      (fun t => [t.ccr.toNat, t.pc.toNat])
      [0xD0, 0x1003] = true := by decide

/-- B.9: JSR 2,-SP. -/
theorem test_jsr_address_before_push :
    stepShows (place [0x15, 0xAE] [] start)
      (fun t => [t.sp.toNat, t.ccr.toNat, t.pc.toNat, byteAt t 0x1FFC, byteAt t 0x1FFD])
      [0x1FFC, 0xD0, 0x1FFE, 0x10, 0x02] = true := by decide

/-- B.9: BSR -2. -/
theorem test_bsr_stack_wraps :
    stepShows (place [0x07, 0xFE] [] { start with sp := 0x01 })
      (fun t => [t.sp.toNat, t.ccr.toNat, t.pc.toNat, byteAt t 0xFFFF, byteAt t 0x0000])
      [0xFFFF, 0xD0, 0x1000, 0x10, 0x02] = true := by decide

/-- B.9: CALL [D,X]. -/
theorem test_call_pointer :
    stepShows (place [0x4B, 0xE7] [(0x3003, 0x81), (0x3004, 0x00), (0x3005, 0x2C)] { start with a := 0x00, b := 0x03, x := 0x3000, ppage := 0x05 })
      (fun t => [t.sp.toNat, t.ppage.toNat, t.ccr.toNat, t.pc.toNat, byteAt t 0x1FFE, byteAt t 0x1FFF, byteAt t 0x1FFD])
      [0x1FFD, 0x2C, 0xD0, 0x8100, 0x10, 0x02, 0x05] = true := by decide

/-- B.9: RTC. -/
theorem test_rtc :
    stepShows (place [0x0A] [(0x1FFD, 0x05), (0x1FFE, 0x90), (0x1FFF, 0x04)] { start with sp := 0x1FFD, ppage := 0x07 })
      (fun t => [t.sp.toNat, t.ppage.toNat, t.ccr.toNat, t.pc.toNat])
      [0x2000, 0x05, 0xD0, 0x9004] = true := by decide

/-- B.9: JMP [D,PC]. -/
theorem test_jmp_indirect :
    stepShows (place [0x05, 0xFF] [(0x1002, 0x30), (0x1003, 0x00), (0x1004, 0x40), (0x1005, 0x00), (0x1006, 0x50), (0x1007, 0x00)] { start with a := 0x00, b := 0x02 })
      (fun t => [t.ccr.toNat, t.pc.toNat])
      [0xD0, 0x4000] = true := by decide

/-- B.9: RTS. -/
theorem test_rts :
    stepShows (place [0x3D] [(0x1FFE, 0x10), (0x1FFF, 0x03)] { start with sp := 0x1FFE })
      (fun t => [t.sp.toNat, t.ccr.toNat, t.pc.toNat])
      [0x2000, 0xD0, 0x1003] = true := by decide

/-- B.10: PSHCW. -/
theorem test_pshcw :
    stepShows (place [0x18, 0x39] [] { start with ipl := 0x03, ccr := 0xD0 })
      (fun t => [t.sp.toNat, t.ccr.toNat, t.pc.toNat, byteAt t 0x1FFE, byteAt t 0x1FFF])
      [0x1FFE, 0xD0, 0x1002, 0x03, 0xD0] = true := by decide

/-- B.10: PULX. -/
theorem test_pulx_wraps :
    stepShows (place [0x30] [(0xFFFF, 0xAB), (0x0000, 0xCD)] { start with sp := 0xFFFF })
      (fun t => [t.x.toNat, t.sp.toNat, t.ccr.toNat, t.pc.toNat])
      [0xABCD, 0x0001, 0xD0, 0x1001] = true := by decide

/-- B.10: PULC. -/
theorem test_pulc_keeps_x_clear :
    stepShows (place [0x38] [(0x1FFF, 0xFF)] { start with ccr := 0x90, sp := 0x1FFF })
      (fun t => [t.sp.toNat, t.ccr.toNat, t.pc.toNat])
      [0x2000, 0xBF, 0x1001] = true := by decide

/-- B.10: ANDCC #$AF. -/
theorem test_andcc :
    stepShows (place [0x10, 0xAF] [] { start with ccr := 0xD9 })
      (fun t => [t.ccr.toNat, t.pc.toNat])
      [0x89, 0x1002] = true := by decide

/-- B.10: ORCC #$40. -/
theorem test_orcc_cannot_set_x :
    stepShows (place [0x14, 0x40] [] { start with ccr := 0x00 })
      (fun t => [t.ccr.toNat, t.pc.toNat])
      [0x00, 0x1002] = true := by decide

/-- B.10: SWI. -/
theorem test_swi :
    stepShows (place [0x3F] [(0xFFF6, 0xC0), (0xFFF7, 0x00)] { start with a := 0x12, b := 0x34, x := 0x5678, y := 0x9ABC, ccr := 0x00, ipl := 0x04 })
      (fun t => [t.sp.toNat, t.ccr.toNat, t.pc.toNat, byteAt t 0x1FFE, byteAt t 0x1FFF, byteAt t 0x1FFC, byteAt t 0x1FFD, byteAt t 0x1FF7])
      [0x1FF6, 0x10, 0xC000, 0x10, 0x01, 0x9A, 0xBC, 0x00] = true := by decide

/-- B.10: TRAP $30. -/
theorem test_trap :
    stepShows (place [0x18, 0x30] [(0xFFF8, 0xD0), (0xFFF9, 0x00)] { start with ccr := 0xC0 })
      (fun t => [t.sp.toNat, t.ccr.toNat, t.pc.toNat, byteAt t 0x1FFE, byteAt t 0x1FFF, byteAt t 0x1FFC, byteAt t 0x1FFD, byteAt t 0x1FF7])
      [0x1FF6, 0xD0, 0xD000, 0x10, 0x02, 0x00, 0x00, 0xC0] = true := by decide

/-- B.10: RTI. -/
theorem test_rti_keeps_x_clear :
    stepShows (place [0x0B] [(0x1FF6, 0x03), (0x1FF7, 0x40), (0x1FF8, 0x34), (0x1FF9, 0x12), (0x1FFA, 0x56), (0x1FFB, 0x78), (0x1FFC, 0x9A), (0x1FFD, 0xBC), (0x1FFE, 0x10), (0x1FFF, 0x01)] { start with sp := 0x1FF6, ccr := 0x90, ipl := 0x07 })
      (fun t => [t.a.toNat, t.b.toNat, t.x.toNat, t.y.toNat, t.sp.toNat, t.ipl.toNat, t.ccr.toNat, t.pc.toNat])
      [0x12, 0x34, 0x5678, 0x9ABC, 0x2000, 0x03, 0x00, 0x1001] = true := by decide

/-- B.10: WAI. -/
theorem test_wai :
    stepShows (place [0x3E] [] { start with a := 0x12, b := 0x34, x := 0x5678, y := 0x9ABC, ccr := 0x80 })
      (fun t => [t.sp.toNat, t.ccr.toNat, t.pc.toNat, byteAt t 0x1FFE, byteAt t 0x1FFF, byteAt t 0x1FFC, byteAt t 0x1FFD, byteAt t 0x1FF7])
      [0x1FF6, 0x80, 0x1001, 0x10, 0x01, 0x9A, 0xBC, 0x80] = true := by decide

/-- B.10: STOP. -/
theorem test_stop :
    stepShows (place [0x18, 0x3E] [] { start with a := 0x12, b := 0x34, x := 0x5678, y := 0x9ABC, ccr := 0x40 })
      (fun t => [t.sp.toNat, t.ccr.toNat, t.pc.toNat, byteAt t 0x1FFE, byteAt t 0x1FFF, byteAt t 0x1FFC, byteAt t 0x1FFD, byteAt t 0x1FF7])
      [0x1FF6, 0x40, 0x1002, 0x10, 0x02, 0x9A, 0xBC, 0x40] = true := by decide

/-- B.10: STOP. -/
theorem test_stop_disabled :
    stepShows (place [0x18, 0x3E] [] { start with ccr := 0xD0 })
      (fun t => [t.ccr.toNat, t.pc.toNat])
      [0xD0, 0x1002] = true := by decide

/-- The registers of the scenarios of 95_test_vectors.md B.12. -/
def scene : State := { start with a := 0x12, b := 0x34, x := 0x5678, y := 0x9ABC }

/-- Nothing but a maskable request. -/
def asks (offset : Byte) (level : BitVec 3) : Sample := { Sample.quiet with irq := some ⟨offset, level⟩ }

/-- Nothing but XIRQ. -/
def asksX : Sample := { Sample.quiet with xirq := true }

/-- E1: a maskable interrupt at a boundary. -/
theorem test_maskable_interrupt_taken :
    stepShows (place [0xA7] [(0xFFF2, 0xC0)] { scene with ccr := 0xC0, inputs := [asks 0xF2 1] })
      (fun t => [t.pc.toNat, t.sp.toNat, t.ipl.toNat, t.ccr.toNat, byteAt t 0x1FF7, byteAt t 0x1FF9, byteAt t 0x1FFE])
      [0xC000, 0x1FF6, 1, 0xD0, 0xC0, 0x12, 0x10] = true := by decide

/-- E2: a level that does not exceed IPL is not taken. -/
theorem test_level_not_above_ipl :
    stepShows (place [0xA7] [] { scene with ccr := 0xC0, ipl := 3, inputs := [asks 0xF2 3] })
      (fun t => [t.pc.toNat, t.sp.toNat, t.ipl.toNat]) [0x1001, 0x2000, 3] = true := by decide

/-- E3: the boundary after CLI is no recognition point. -/
theorem test_delay_after_cli :
    stepShows (place [0xA7] [] { scene with ccr := 0xC0, iDelay := true, inputs := [asks 0xF2 1] })
      (fun t => [t.pc.toNat, t.iDelay.toNat]) [0x1001, 0] = true := by decide

/-- E5: a request ends WAI without pushing again. -/
theorem test_wait_ended_by_request :
    stepShows (place [] [(0xFFF2, 0xC0)] { scene with ccr := 0xC0, sp := 0x1FF6, run := .waiting, inputs := [asks 0xF2 2] })
      (fun t => [t.pc.toNat, t.sp.toNat, t.ipl.toNat, t.ccr.toNat]) [0xC000, 0x1FF6, 2, 0xD0] = true := by decide

/-- E6: XIRQ is taken although I = 1. -/
theorem test_xirq_taken :
    stepShows (place [0xA7] [(0xFFF4, 0xC2)] { scene with ccr := 0x90, ipl := 2, inputs := [asksX] })
      (fun t => [t.pc.toNat, t.sp.toNat, t.ipl.toNat, t.ccr.toNat, byteAt t 0x1FF6, byteAt t 0x1FF7])
      [0xC200, 0x1FF6, 7, 0xD0, 0x02, 0x90] = true := by decide

/-- E7: XIRQ with X = 1 ends WAI and goes on. -/
theorem test_wait_ended_by_masked_xirq :
    stepShows { scene with sp := 0x1FF6, pc := 0x1001, run := .waiting, inputs := [asksX] }
      (fun t => [t.pc.toNat, t.sp.toNat, t.ccr.toNat, if t.run = .running then 1 else 0])
      [0x1001, 0x2000, 0xD0, 1] = true := by decide

/-- E9: SWI through a relocated vector table. -/
theorem test_relocated_vector :
    stepShows (place [0x3F] [(0x40F6, 0xC3)] { start with vb := 0x40, ccr := 0xC0 })
      (fun t => [t.pc.toNat, t.ccr.toNat]) [0xC300, 0xD0] = true := by decide

/-- E11: an interrupt between two elements of REV stacks the address of the REV. -/
theorem test_rev_interrupted :
    stepShows (place [0x18, 0x3A] [(0xFFF2, 0xC0)]
        { start with a := 0x40, x := 0x4002, y := 0x3000, ccr := 0xC0, run := .inRev, inputs := [asks 0xF2 1] })
      (fun t => [t.pc.toNat, t.sp.toNat, byteAt t 0x1FFE, byteAt t 0x1FFA, byteAt t 0x1FFB, byteAt t 0x1FF9])
      [0xC000, 0x1FF6, 0x10, 0x40, 0x02, 0x40] = true := by decide

/-- B.13: a COP reset ends at the fixed vector $FFFA. -/
theorem test_cop_reset :
    stepShows (place [] [(0xFFFA, 0xC2)] { start with vb := 0x40, run := .inReset .cop })
      (fun t => [t.pc.toNat, t.ipl.toNat, t.vb.toNat, if t.run = .running then 1 else 0]) [0xC200, 0, 0xFF, 1] = true := by
  decide

/-- R901 step 1: a reset is held, in the middle of a REV as well; nothing is stacked. -/
theorem test_reset_held :
    stepShows { start with run := .inRev, inputs := [{ Sample.quiet with reset := some .cop }] }
      (fun t => [t.sp.toNat, if t.run = .inReset .cop then 1 else 0]) [0x2000, 1] = true := by decide

/-- R902: over a COP reset RAM keeps what the device retains, ROM keeps all, a device register takes its reset content. -/
theorem test_memory_after_reset :
    let s : State := { start with
      mem := [(0, 0x11), (1, 0x22), (2, 0x33)]
      device := { Device.default with
        regions := [⟨1, 1, .rom⟩, ⟨2, 2, .register ⟨0xFF, 0, 0, 0, 0x44⟩⟩], retained := [⟨.cop, 0, 0⟩] } }
    [s.byteAfterReset .cop 0, s.byteAfterReset .cop 1, s.byteAfterReset .cop 2] = [0x11, 0x22, 0x44] ∧
    s.device.retains .powerOn 0 = false ∧ s.device.retains .cop 3 = false := by decide

/-- R851: a store that the device answers with the illegal-address reset; a load from the same address is none. -/
theorem test_illegal_address_reset :
    let dev := { Device.default with illegal := [⟨.write, 0x3000, 0x3000⟩] }
    stepShows (place [0x7A, 0x30, 0x00] [] { start with device := dev })
      (fun t => [if t.run = .inReset .system then 1 else 0]) [1] = true ∧
    stepShows (place [0xB6, 0x30, 0x00] [] { start with device := dev })
      (fun t => [t.pc.toNat, if t.run = .running then 1 else 0]) [0x1003, 1] = true := by decide

/-- D10: a store of $3C to a device register that holds $A5, keeps bits 3 to 0 and clears bits 7 to 4 by writing 1. -/
theorem test_device_register :
    stepShows (place [0x7A, 0x30, 0x00] [(0x3000, 0xA5)] { start with
        a := 0x3C, device := { Device.default with regions := [⟨0x3000, 0x3000, .register ⟨0x0F, 0xF0, 0, 0, 0⟩⟩] } })
      (fun t => [byteAt t 0x3000, (t.readByte 0x3000).toNat]) [0x8C, 0x8C] = true := by decide

/-- B.8: DAA of $9A with no carries gives $00 (V is unspecified). -/
theorem test_daa :
    stepShows (place [0x18, 0x07] [] { start with a := 0x9A }) (fun t => [t.a.toNat, t.pc.toNat]) [0x00, 0x1002] = true := by
  decide

/-- B.11: MEM, the normal trapezoid. -/
theorem test_mem :
    stepShows (place [0x01] [(0x4000, 0x40), (0x4001, 0xC0), (0x4002, 0x08), (0x4003, 0x04)]
        { start with a := 0x50, x := 0x4000, y := 0x3000 })
      (fun t => [t.x.toNat, t.y.toNat, byteAt t 0x3000]) [0x4004, 0x3001, 0x80] = true := by decide

/-- 20_memory.md R77, 92 D14: an instruction stored since the last change of flow is refused. -/
theorem test_stale_fetch : step (place [0xA7] [] { start with stale := [0x1000] }) = .refused .staleFetch := rfl

/-- R900, R901: PC after reset is the word at $FFFE. -/
theorem test_reset_pc : State.reset.pc = State.reset.readWord 0xFFFE := rfl

theorem test_fetch_word_runs : step (State.reset.withFetchWord 8 0x86) =
    exec (.ldaa (.imm 0)) { State.reset.withFetchWord 8 0x86 with pc := 2, free := 1 } := rfl

/-! ## States and operands that meet the hypotheses of the statements -/

/-- The default device with expanded memory. -/
def paged : State := { start with device := { Device.default with expanded := true } }

/-- The memory form, a premise of every statement about a store, and RAM under the whole stack. -/
theorem test_meets_memory_form : MemoryForm start ∧ MemoryForm (place [0x3F] [(0xFFF6, 0xC0)] scene) := ⟨rfl, rfl⟩

theorem start_is_ram (a : Word) : IsRam start a := ⟨rfl, rfl⟩

theorem test_meets_stack_is_ram : StackIsRam start 3 ∧ StackIsRam start 6 ∧ StackIsRam start 10 :=
  ⟨fun _ _ => start_is_ram _, fun _ _ => start_is_ram _, fun _ _ => start_is_ram _⟩

theorem test_meets_DecodeEncodeRoundTrip : (Instr.call (.ind (.indD .pc))).wf = true ∧ (Instr.trap 0xCF).wf = true ∧
    (Instr.ins).wf = true := by decide

theorem test_meets_DecodeAnswersWellFormed :
    decode [0x18, 0x02, 0xE2, 0x12, 0x34, 0xEA, 0x56, 0x78] =
      .ok (.movw (.mem (.idx (.off16 .x 0x1234))) (.idx (.off16 .y 0x5678)), []) ∧
    decode [0xA7] = .ok (.nop, []) ∧ 8 ≤ ([0, 0, 0, 0, 0, 0, 0, 0] : List Byte).length := ⟨rfl, rfl, by decide⟩

theorem test_meets_ReservedPostbytesRefused :
    (0xC0#8).extractLsb' 6 2 = 3#2 ∧ (0x02#8).extractLsb' 0 3 = 2#3 ∧ (0x03#8).extractLsb' 0 3 = 3#3 ∧
    0x0C#8 ∈ [0x0C#8, 0x0D#8, 0x0E#8, 0x0F#8, 0x19#8, 0x1A#8, 0x1B#8] ∧
    0x1B#8 ∈ [0x0C#8, 0x0D#8, 0x0E#8, 0x0F#8, 0x19#8, 0x1A#8, 0x1B#8] ∧
    0x3D#8 ∈ [0x3D#8, 0x3F#8] ∧ 0x3F#8 ∈ [0x3D#8, 0x3F#8] := by decide

theorem test_meets_UnimplementedOpcodesAreTraps :
    0x30#8 ∈ trapCodes ∧ 0xCF#8 ∈ trapCodes ∧ decode [0x18, 0x30] = .ok (.trap 0x30, []) :=
  ⟨by decide, by decide, rfl⟩

theorem test_meets_CompletesExactlyWhenWellFormed :
    (Instr.tbl (.acc .x .a)).wf = true ∧ (Instr.tbl (.off9 .x 0)).wf = false := by decide

theorem test_meets_StepRunsDecoded :
    let s := place [0xA7] [] start
    s.run = .running ∧ NothingRecognised s s.iDelay ∧ Permitted s ∧
    decode (s.nextSample.bytesAt s.pc 8) = .ok (.nop, [0, 0, 0, 0, 0, 0, 0]) ∧ s.staleAt s.pc 1 = false :=
  ⟨rfl, ⟨rfl, rfl, nofun, nofun⟩, rfl, rfl, rfl⟩

/-- Requests pending but not let through, on a device that declares the bytes on both sides of the NOP illegal. -/
theorem test_meets_StepRunsDecoded_with_requests :
    let s := place [0xA7] [] { start with
      iDelay := true, ccr := 0xC0, inputs := [⟨none, true, some ⟨0xF2, 1⟩, false, false⟩]
      device := { Device.default with illegal := [⟨.fetch, 0, 0x0FFF⟩, ⟨.fetch, 0x1001, 0xFFFF⟩] } }
    s.run = .running ∧ NothingRecognised s s.iDelay ∧ Permitted s ∧
    decode (s.nextSample.bytesAt s.pc 8) = .ok (.nop, [0, 0, 0, 0, 0, 0, 0]) ∧ s.staleAt s.pc 1 = false :=
  ⟨rfl, ⟨rfl, rfl, fun _ => rfl, fun _ _ => .inl rfl⟩, rfl, rfl, rfl⟩

theorem test_meets_StepKeepsMemoryForm : MemoryForm start ∧ ∃ t, step start = .next t := ⟨rfl, _, rfl⟩

theorem test_meets_OnlyResetOrXirqSetsX :
    let s := { start with ccr := 0x90, inputs := [asksX] }
    s.ccr.getLsbD 6 = false ∧ ∃ t, step s = .next t ∧ t.ccr.getLsbD 6 = true := ⟨rfl, _, rfl, rfl⟩

theorem test_meets_OnlyResetOrXirqSetsX_by_reset :
    let s := { start with ccr := 0x90, run := .inReset .system }
    s.ccr.getLsbD 6 = false ∧ ∃ t, step s = .next t ∧ t.ccr.getLsbD 6 = true :=
  ⟨rfl, _, rfl, by simp [State.resetBy]⟩

theorem test_meets_PageRegistersChangeOnlyByStores :
    (∃ t, step start = .next t) ∧ (∀ k, start.run ≠ .inReset k) ∧ start.device.gpageAddr = none ∧
    start.device.directAddr = none ∧ start.device.vbAddr = none := ⟨⟨_, rfl⟩, nofun, rfl, rfl, rfl⟩

/-- A store beside the mapped DIRECT. -/
theorem test_meets_PageRegistersChangeOnlyByStores_mapped :
    let s := place [0x7A, 0x00, 0x12] [] { start with device := { Device.default with directAddr := some 0x0011 } }
    (∃ t, step s = .next t) ∧ (∀ k, s.run ≠ .inReset k) ∧ s.device.registerAt 0x0011 = some .direct ∧
    ∀ c ∈ stepAccesses (nextInput s) s.nextSample, ∀ a : Word,
      c.kind = .write → c.logical = some a → s.device.registerAt a ≠ some .direct := by
  refine ⟨⟨_, rfl⟩, nofun, rfl, ?_⟩
  have h : stepAccesses (nextInput (place [0x7A, 0x00, 0x12] []
      { start with device := { Device.default with directAddr := some 0x0011 } })) (place [0x7A, 0x00, 0x12] []
      { start with device := { Device.default with directAddr := some 0x0011 } }).nextSample =
      [⟨.fetch, some 0x1000, 0x1000⟩, ⟨.fetch, some 0x1001, 0x1001⟩, ⟨.fetch, some 0x1002, 0x1002⟩,
       ⟨.write, some 0x0012, 0x0012⟩] := by decide
  intro c hc a hk ha
  rw [h] at hc
  simp only [List.mem_cons, List.not_mem_nil, or_false] at hc
  rcases hc with rfl | rfl | rfl | rfl
  · cases hk
  · cases hk
  · cases hk
  · cases ha; decide

/-- R787, C28: the word at SP + 8 (PC) is read before the word at SP + 6 (Y). -/
theorem test_rti_reads_pc_before_y :
    (Instr.accesses .rti { start with sp := 0x1FF6 } start).map (·.logical) =
      [0x1FF6, 0x1FF7, 0x1FF8, 0x1FF9, 0x1FFA, 0x1FFB, 0x1FFE, 0x1FFF, 0x1FFC, 0x1FFD].map some := by decide

theorem test_meets_MemoryAccesses :
    MemoryForm start ∧ IsRam start 0xFFFF ∧ IsRam start (0xFFFF + 1) ∧ IsRam start 0 :=
  ⟨rfl, start_is_ram _, start_is_ram _, start_is_ram _⟩

theorem test_meets_MemoryAccesses_window :
    MemoryForm paged ∧ IsRam paged 0x8000 ∧ IsRam paged 0xBFFF ∧ paged.device.expanded = true ∧
    0x8000 ≤ (0x8000#16).toNat ∧ (0xBFFF#16).toNat ≤ 0xBFFF ∧ 0x00#8 = paged.ppage ∧ 0x07#8 ≠ paged.ppage :=
  ⟨rfl, ⟨rfl, rfl⟩, ⟨rfl, rfl⟩, rfl, by decide, by decide, rfl, by decide⟩

/-- R147: +8 and -8 are the ends of the adjustment, after and before the access. -/
theorem test_auto_modify_ends :
    ((Idx.auto .x true 7).update start).x = 8 ∧ ((Idx.auto .x false 8).update start).x = 0xFFF8 ∧
    (Idx.auto .x true 7).addr start 0 = 0 ∧ (Idx.auto .x false 8).addr start 0 = 0xFFF8 := by decide

theorem test_meets_EffectiveAddresses : ∀ r post n, Idx.indD .x ≠ .auto r post n := nofun

theorem test_meets_direct_forms :
    (Idx.auto .sp true 0).isDirect = true ∧ (Ea.dir 0xFF).isDirect = true ∧ (Ea.idx (.off16 .pc 0)).isDirect = true ∧
    (Ea.idx (.indD .x)).isDirect = false ∧ (Idx.acc .pc .d).noExtension = true := by decide

theorem test_meets_Transfers : RegCode.x ≠ .a ∧ RegCode.x ≠ .b ∧ RegCode.x ≠ .tmp ∧ RegCode.tmp ≠ .a := by decide

theorem test_meets_Exchanges : RegCode.x ≠ .tmp ∧ RegCode.ccr ≠ .tmp := by decide

theorem test_meets_DecimalAdjust :
    let s := { start with a := 0x99, b := 0x99 }
    99 < 100 ∧ s.a.toNat = 99 / 10 * 16 + 99 % 10 ∧ s.b.toNat = 99 / 10 * 16 + 99 % 10 ∧ ∃ t, exec .aba s = .next t :=
  ⟨by decide, rfl, rfl, _, rfl⟩

theorem test_meets_DecimalAdjust_zero :
    start.a.toNat = 0 / 10 * 16 + 0 % 10 ∧ start.b.toNat = 0 / 10 * 16 + 0 % 10 ∧ ∃ t, exec .aba start = .next t :=
  ⟨rfl, rfl, _, rfl⟩

/-- The four cases of the corrections of DAA. -/
theorem test_meets_DecimalAdjust_corrections :
    (9 < (0x9A#8).toNat % 16 ∧ (0x9A#8).toNat / 16 = 9) ∧ (9 < (0x0A#8).toNat % 16 ∧ ¬ 9 < (0x0A#8).toNat / 16) ∧
    (9 < (0xA0#8).toNat / 16 ∧ ¬ 9 < (0xA0#8).toNat % 16) ∧ ¬ 9 < (0x99#8).toNat / 16 ∧ ¬ 9 < (0x99#8).toNat % 16 := by
  decide

theorem test_meets_Divisions_unsigned :
    (0x0000#16 = 0) ∧ 65535 < (0x0001#16).toNat * 65536 / (0x0001#16).toNat ∧
    (0x0000#16).toNat * 65536 + (0xFFFF#16).toNat ≤ 65535 ∧ (0xFFFE#16).toNat < (0xFFFF#16).toNat ∧
    (0x0003#16).toNat ≤ (0x0003#16).toNat := by decide

/-- Quotients 32767, 32768, -32768 and -32769, and the overflow of IDIVS. -/
theorem test_meets_Divisions_signed :
    (0x00007FFF#32).toInt.tdiv (1#16).toInt = 32767 ∧ 32767 < (0x00008000#32).toInt.tdiv (1#16).toInt ∧
    (0xFFFF8000#32).toInt.tdiv (1#16).toInt = -32768 ∧ (0xFFFF7FFF#32).toInt.tdiv (1#16).toInt < -32768 ∧
    (0x8000#16).toInt = -32768 ∧ (0xFFFF#16).toInt = -1 ∧ ¬ ((0x8001#16).toInt = -32768 ∧ (0xFFFF#16).toInt = -1) := by
  decide

theorem test_meets_CompareThenBranch : ∃ t, exec (.cmpa (.imm 0x80)) start = .next t := ⟨_, rfl⟩

/-- A mask with no bit, whose branches are taken, and one with every bit. -/
theorem test_meets_BranchesOnBits :
    (∀ k < 8, (0x00#8).getLsbD k = true → (0xA5#8).getLsbD k = false) ∧
    (∀ k < 8, (0xFF#8).getLsbD k = true → (0x00#8).getLsbD k = false) ∧
    (∃ k < 8, (0xFF#8).getLsbD k = true ∧ (0x80#8).getLsbD k = true) ∧
    (∀ k < 8, (0xFF#8).getLsbD k = true → (0xFF#8).getLsbD k = true) ∧
    ∃ k < 8, (0xFF#8).getLsbD k = true ∧ (0x7F#8).getLsbD k = false :=
  ⟨by decide, by decide, ⟨7, by decide⟩, by decide, ⟨7, by decide⟩⟩

theorem test_meets_CallsAndReturns :
    (CallTarget.ext 0x8000 7).wf = true ∧ (CallTarget.idx (.auto .sp true 0) 7).wf = true ∧
    (CallTarget.ind (.indD .x)).wf = true := by decide

theorem test_meets_SubroutineReturns :
    MemoryForm paged ∧ StackIsRam paged 3 ∧
    (∀ k < 3, paged.device.expanded = true → inWindow (paged.sp - BitVec.ofNat 16 (k + 1)) = false) ∧
    (∃ t, exec (.jsr (.ext 0x4000)) paged = .next t) ∧ ∃ t, exec (.call (.ext 0x8000 7)) paged = .next t :=
  ⟨rfl, fun k _ => match k with
    | 0 => ⟨rfl, rfl⟩
    | 1 => ⟨rfl, rfl⟩
    | 2 => ⟨rfl, rfl⟩
    | _ + 3 => by omega, by decide, ⟨_, rfl⟩, _, rfl⟩

theorem test_meets_NullAndBackground :
    let s := { start with device := { Device.default with bdmEnabled := true } }
    start.device.bdmEnabled = false ∧ s.device.bdmEnabled = true ∧
    ({ s with run := .background } : State).run = .background ∧ (nextInput s).reset = none := ⟨rfl, rfl, rfl, rfl⟩

theorem test_meets_InterruptThenReturnRestores :
    MemoryForm start ∧ StackIsRam start 10 ∧ ∃ t, exec .swi start = .next t :=
  ⟨rfl, fun _ _ => start_is_ram _, _, rfl⟩

theorem test_meets_StopAndWait : start.ccr.getLsbD 7 = true ∧ ({ start with ccr := 0x50 } : State).ccr.getLsbD 7 = false :=
  ⟨rfl, rfl⟩

/-- The elements of REV: terminator, separator, antecedent ($00, $FD); of REVW: $FFFF, $FFFE, $FFFD; V = 0 and V = 1. -/
theorem test_meets_RuleEvaluation :
    (place [] [(0x4000, 0xFF)] start).readByte 0x4000 = 0xFF ∧ (place [] [(0x4000, 0xFE)] start).readByte 0x4000 = 0xFE ∧
    (place [] [(0x4000, 0xFD)] start).readByte 0x4000 ≠ 0xFE ∧ start.ccr.getLsbD 1 = false ∧
    ({ start with ccr := 0xD2 } : State).ccr.getLsbD 1 = true := by decide

theorem test_meets_RuleEvaluation_under_way :
    let s := { start with run := .inRev }
    let w := { start with run := .inRevw }
    s.run = .inRev ∧ NothingRecognised s false ∧ Permitted s ∧ w.run = .inRevw ∧ NothingRecognised w false ∧ Permitted w :=
  ⟨rfl, ⟨rfl, rfl, nofun, nofun⟩, rfl, rfl, ⟨rfl, rfl, nofun, nofun⟩, rfl⟩

theorem test_meets_WeightedRuleEvaluation :
    let s := place [] [(0x4000, 0xFF), (0x4001, 0xFE), (0x4002, 0xFF), (0x4003, 0xFF), (0x4005, 0x10)] start
    s.readWord 0x4000 = 0xFFFE ∧ s.readWord 0x4002 = 0xFFFF ∧ s.readWord 0x4004 = 0x0010 ∧
    start.ccr.getLsbD 0 = false ∧ ({ start with ccr := 0xD1 } : State).ccr.getLsbD 0 = true := by decide

theorem test_meets_WeightedAverageSums :
    start.inputs = [] ∧ (∀ k f : Nat, ({ start with free := f } : State).readKey k = start.readKey k) ∧
    256 = (if start.b = 0 then 256 else start.b.toNat) ∧
    (∀ k < 256, ∀ c ∈ start.reads8 (start.y + BitVec.ofNat 16 k) ++ start.reads8 (start.x + BitVec.ofNat 16 k),
      start.device.forbids c = false) ∧ (∃ t, exec .wav start = .next t) ∧
    1 = (if ({ start with b := 1 } : State).b = 0 then 256 else ({ start with b := 1 } : State).b.toNat) :=
  ⟨rfl, fun _ _ => rfl, rfl, fun _ _ _ _ => rfl, ⟨_, rfl⟩, rfl⟩

theorem test_meets_WeightedAverageSuspension :
    start.b = 0 ∧ ({ start with b := 1 } : State).b ≠ 0 ∧ MemoryForm start := ⟨rfl, by decide, rfl⟩

theorem test_meets_InterruptsAreTaken_xirq :
    let s := { start with ccr := 0x90, inputs := [asksX] }
    MemoryForm s ∧ Permitted s ∧ (nextInput s).reset = none ∧ s.run = .running ∧ StackIsRam s 10 ∧
    Qualified s s.iDelay 0xF4 true 7 :=
  ⟨rfl, rfl, rfl, rfl, fun _ _ => ⟨rfl, rfl⟩, .inl ⟨rfl, rfl, rfl, rfl, rfl⟩⟩

/-- A level of one above IPL, at both ends of the vector offsets, XIRQ pending and masked. -/
theorem test_meets_InterruptsAreTaken_maskable :
    let s := { start with ccr := 0xC0, ipl := 3, inputs := [⟨none, true, some ⟨0x10, 4⟩, false, false⟩] }
    MemoryForm s ∧ Permitted s ∧ (nextInput s).reset = none ∧ s.run = .running ∧ StackIsRam s 10 ∧
    Qualified s s.iDelay 0x10 false 4 ∧ (⟨0xF2, 1⟩ : Request).deliverable = true :=
  ⟨rfl, rfl, rfl, rfl, fun _ _ => ⟨rfl, rfl⟩,
    .inr ⟨fun _ => rfl, _, rfl, by decide, rfl, by decide, rfl, rfl, rfl, rfl⟩, by decide⟩

/-- Between two elements of REV, of REVW and of WAV. -/
theorem test_meets_InterruptsAreTaken_under_way :
    let s (r : RunState) := { start with ccr := 0xC0, run := r, inputs := [asks 0xF2 1] }
    (∀ r, MemoryForm (s r) ∧ (nextInput (s r)).reset = none ∧ StackIsRam (s r) 16 ∧ Qualified (s r) false 0xF2 false 1) ∧
    Permitted (s .inRev) ∧ Permitted (s .inRevw) ∧ Permitted (s .inWav) :=
  ⟨fun _ => ⟨rfl, rfl, fun _ _ => ⟨rfl, rfl⟩,
    .inr ⟨nofun, ⟨0xF2, 1⟩, rfl, by decide, show (192#8).getLsbD 4 = false by decide, show (0#3 < 1#3) by decide, rfl, rfl, rfl, rfl⟩⟩, rfl, rfl, rfl⟩

theorem test_meets_LeavingWaitAndStop_xirq :
    let s := { start with ccr := 0x90, run := .waiting, inputs := [asksX] }
    (s.run = .waiting ∨ s.run = .stopped) ∧ (nextInput s).reset = none ∧ Permitted s ∧ Qualified s false 0xF4 true 7 :=
  ⟨.inl rfl, rfl, rfl, .inl ⟨rfl, rfl, rfl, rfl, rfl⟩⟩

/-- A maskable request that the masks let through, together with XIRQ while X = 1. -/
theorem test_meets_LeavingWaitAndStop_maskable :
    let s := { start with ccr := 0xC0, run := .stopped, inputs := [⟨none, true, some ⟨0xF2, 1⟩, false, false⟩] }
    (s.run = .waiting ∨ s.run = .stopped) ∧ (nextInput s).reset = none ∧ Permitted s ∧
    Qualified s false 0xF2 false 1 :=
  ⟨.inr rfl, rfl, rfl, .inr ⟨fun _ => rfl, _, rfl, by decide, rfl, by decide, rfl, rfl, rfl, rfl⟩⟩

theorem test_meets_LeavingWaitAndStop_masked_xirq :
    let s := { start with run := .stopped, inputs := [asksX] }
    (s.run = .waiting ∨ s.run = .stopped) ∧ (nextInput s).reset = none ∧ (nextInput s).xirq = true ∧
    NothingQualified s false := ⟨.inr rfl, rfl, rfl, fun _ => rfl, nofun⟩

/-- A forced SWI and a masked maskable request. -/
theorem test_meets_LeavingWaitAndStop_nothing :
    let s := { start with run := .waiting, inputs := [⟨none, false, some ⟨0xF2, 7⟩, true, false⟩] }
    (s.run = .waiting ∨ s.run = .stopped) ∧ (nextInput s).reset = none ∧ (nextInput s).xirq = false ∧
    NothingQualified s false := ⟨.inl rfl, rfl, rfl, nofun, fun _ _ => .inr (.inr (.inl rfl))⟩

/-- A reset that is held, its end, and both ways into it. -/
theorem test_meets_ResetSequence (k : ResetKind) :
    let s := { start with run := .stopped, inputs := [{ Sample.quiet with reset := some k }] }
    let u := { start with run := .inReset k }
    (nextInput s).reset = some k ∧ (∃ t, step s = .next t ∧ t.run = .inReset k) ∧
    u.run = .inReset k ∧ (nextInput u).reset = none ∧ Permitted u := ⟨rfl, ⟨_, rfl, rfl⟩, rfl, rfl, rfl⟩

theorem test_meets_ResetSequence_illegal :
    let s := place [0x7A, 0x30, 0x00] [] { start with device := { Device.default with illegal := [⟨.write, 0x3000, 0x3000⟩] } }
    ¬ Permitted s ∧ ∃ t, step s = .next t ∧ t.run = .inReset .system := by
  refine ⟨?_, _, rfl, rfl⟩
  show ¬ (illegalAccess _ _ = false)
  decide

end Sys2Proof.Tests
end

section
/-! The outcome of every instruction (00_scope.md R6): `exec` answers a next state when the operand is one an encoding
expresses, and refuses by name when it is not. The guarded operations are the only ones that refuse. -/

namespace Sys2Proof.Machine

open Sys2Proof

/-- An outcome is a next state when the operand check `formed` passes and the refusal `reservedForm` when it fails. -/
def AnswersExactly (formed : Bool) (o : Host.Outcome State Fault Refusal) : Prop :=
  (formed = true → ∃ t, o = .next t) ∧ (formed = false → o = .refused .reservedForm)

theorem answersExactly_next (t : State) : AnswersExactly true (.next t) :=
  ⟨fun _ => ⟨t, rfl⟩, nofun⟩

theorem answersExactly_refused : AnswersExactly false (.refused .reservedForm) :=
  ⟨nofun, fun _ => rfl⟩

/-- The shape of every guarded operation: the check, then either the effect or the refusal (log 26). -/
theorem answersExactly_guarded (formed : Bool) (t : State) :
    AnswersExactly formed (if formed then .next t else .refused .reservedForm) := by
  cases formed with
  | true => exact answersExactly_next t
  | false => exact answersExactly_refused

/-- A case distinction that is no operand check answers as its branches do. -/
theorem answersExactly_ite {c : Prop} [Decidable c] {formed : Bool} {o p : Host.Outcome State Fault Refusal}
    (ho : AnswersExactly formed o) (hp : AnswersExactly formed p) : AnswersExactly formed (if c then o else p) := by
  split
  · exact ho
  · exact hp

/-! ### The guarded operations (31_indexed_postbyte.md R160, 92 D4) -/

theorem loadAddress_answersExactly (set : State → Word → State) (idx : Idx) (s : State) :
    AnswersExactly idx.isDirect (loadAddress set idx s) := answersExactly_guarded _ _

theorem modifyBits_answersExactly (f test : Byte → Byte) (ea : Ea) (s : State) :
    AnswersExactly ea.isDirect (modifyBits f test ea s) := answersExactly_guarded _ _

theorem execBclr_answersExactly (ea : Ea) (mask : Byte) (s : State) :
    AnswersExactly ea.isDirect (execBclr ea mask s) := modifyBits_answersExactly _ _ ea s

theorem execBset_answersExactly (ea : Ea) (mask : Byte) (s : State) :
    AnswersExactly ea.isDirect (execBset ea mask s) := modifyBits_answersExactly _ _ ea s

theorem execBtas_answersExactly (ea : Ea) (mask : Byte) (s : State) :
    AnswersExactly ea.isDirect (execBtas ea mask s) := modifyBits_answersExactly _ _ ea s

theorem branchOnBits_answersExactly (test : Byte → Bool) (ea : Ea) (rel : Byte) (s : State) :
    AnswersExactly ea.isDirect (branchOnBits test ea rel s) := answersExactly_guarded _ _

theorem execBrclr_answersExactly (ea : Ea) (mask rel : Byte) (s : State) :
    AnswersExactly ea.isDirect (execBrclr ea mask rel s) := branchOnBits_answersExactly _ ea rel s

theorem execBrset_answersExactly (ea : Ea) (mask rel : Byte) (s : State) :
    AnswersExactly ea.isDirect (execBrset ea mask rel s) := branchOnBits_answersExactly _ ea rel s

theorem execTbl_answersExactly (idx : Idx) (s : State) : AnswersExactly idx.noExtension (execTbl idx s) :=
  answersExactly_guarded _ _

theorem execEtbl_answersExactly (idx : Idx) (s : State) : AnswersExactly idx.noExtension (execEtbl idx s) :=
  answersExactly_guarded _ _

theorem execTrap_answersExactly (tn : Byte) (s : State) : AnswersExactly (isTrapCode tn) (execTrap tn s) :=
  answersExactly_guarded _ _

/-- CALL's pointer form is the one guard that asks for an indirect operand (47_branch_loop_jump.md R752). -/
theorem execCall_answersExactly (target : CallTarget) (s : State) : AnswersExactly target.wf (execCall target s) := by
  cases target with
  | ext addr page => exact answersExactly_next _
  | idx i page => exact answersExactly_guarded _ _
  | ind i =>
    show AnswersExactly (!i.isDirect) (if i.isDirect then .refused .reservedForm else .next _)
    cases i.isDirect with
    | true => exact answersExactly_refused
    | false => exact answersExactly_next _

/-! ### The operations with exceptional cases, all of which complete -/

theorem execEdiv_answersExactly (s : State) : AnswersExactly true (execEdiv s) :=
  answersExactly_ite (answersExactly_next _) (answersExactly_ite (answersExactly_next _) (answersExactly_next _))

theorem execEdivs_answersExactly (s : State) : AnswersExactly true (execEdivs s) :=
  answersExactly_ite (answersExactly_next _) (answersExactly_ite (answersExactly_next _) (answersExactly_next _))

theorem execIdiv_answersExactly (s : State) : AnswersExactly true (execIdiv s) :=
  answersExactly_ite (answersExactly_next _) (answersExactly_next _)

theorem execIdivs_answersExactly (s : State) : AnswersExactly true (execIdivs s) :=
  answersExactly_ite (answersExactly_next _) (answersExactly_ite (answersExactly_next _) (answersExactly_next _))

theorem execFdiv_answersExactly (s : State) : AnswersExactly true (execFdiv s) :=
  answersExactly_ite (answersExactly_next _) (answersExactly_next _)

theorem execStop_answersExactly (s : State) : AnswersExactly true (execStop s) :=
  answersExactly_ite (answersExactly_next _) (answersExactly_next _)

theorem execRev_answersExactly (s : State) : AnswersExactly true (execRev s) :=
  answersExactly_ite (answersExactly_next _) (answersExactly_next _)

theorem execRevw_answersExactly (s : State) : AnswersExactly true (execRevw s) :=
  answersExactly_ite (answersExactly_next _) (answersExactly_next _)

theorem execSex_answersExactly (op : SexOp) (s : State) : AnswersExactly true (execSex op s) := by
  cases op <;> exact answersExactly_next _

/-! ### Every instruction -/

/-- The instructions named here guard their operand or distinguish cases; every other one has a single effect. -/
theorem exec_answersExactly (i : Instr) (s : State) : AnswersExactly i.wf (exec i s) := by
  cases i with
  | leas idx => exact loadAddress_answersExactly _ idx s
  | leax idx => exact loadAddress_answersExactly _ idx s
  | leay idx => exact loadAddress_answersExactly _ idx s
  | bclr ea mask => exact execBclr_answersExactly ea mask s
  | bset ea mask => exact execBset_answersExactly ea mask s
  | btas ea mask => exact execBtas_answersExactly ea mask s
  | brclr ea mask rel => exact execBrclr_answersExactly ea mask rel s
  | brset ea mask rel => exact execBrset_answersExactly ea mask rel s
  | tbl idx => exact execTbl_answersExactly idx s
  | etbl idx => exact execEtbl_answersExactly idx s
  | call target => exact execCall_answersExactly target s
  | trap tn => exact execTrap_answersExactly tn s
  | ediv => exact execEdiv_answersExactly s
  | edivs => exact execEdivs_answersExactly s
  | idiv => exact execIdiv_answersExactly s
  | idivs => exact execIdivs_answersExactly s
  | fdiv => exact execFdiv_answersExactly s
  | stop => exact execStop_answersExactly s
  | rev => exact execRev_answersExactly s
  | revw => exact execRevw_answersExactly s
  | sex op => exact execSex_answersExactly op s
  | _ => exact answersExactly_next _

/-- Settles O6: the outcome of each of the 281 constructors is `exec_answersExactly`. -/
theorem completesExactlyWhenWellFormed : Obligations.CompletesExactlyWhenWellFormed := exec_answersExactly

end Sys2Proof.Machine
end

section
/-! Writing the condition codes from data (10_state.md R33, 60_exceptions.md R822): the X rule on a masked value of the codes
themselves, and what each instruction of O47 leaves. -/

namespace Sys2Proof.Machine

open Sys2Proof Sys2Proof.Safety

/-! ### The condition-code writes -/

/-- Clearing bits sets none, so the X rule holds nothing back. -/
theorem writeCcr_and_ccr (s : State) (k : Byte) : (s.writeCcr (s.ccr &&& k)).ccr = s.ccr &&& k := by
  apply BitVec.eq_of_getLsbD_eq
  intro j hj
  rw [writeCcr_bits s _ j hj, BitVec.getLsbD_and]
  by_cases h : j = 6
  · subst h; cases s.ccr.getLsbD 6 <;> simp
  · simp [h]

/-- Setting bits is held back for X alone. -/
theorem writeCcr_or_ccr (s : State) (k : Byte) (hk : k.getLsbD 6 = false) :
    (s.writeCcr (s.ccr ||| k)).ccr = s.ccr ||| k := by
  apply BitVec.eq_of_getLsbD_eq
  intro j hj
  rw [writeCcr_bits s _ j hj, BitVec.getLsbD_or]
  by_cases h : j = 6
  · subst h; simp [-BitVec.getLsbD_eq_getElem, hk]
  · simp [h]

theorem writeCcr_or_ccr_x (s : State) (k : Byte) : (s.writeCcr (s.ccr ||| k)).ccr.getLsbD 6 = s.ccr.getLsbD 6 := by
  rw [writeCcr_bits s _ 6 (by decide), BitVec.getLsbD_or]
  cases s.ccr.getLsbD 6 <;> simp

/-- The frame of a condition-code write: the codes and the I delay alone. -/
theorem writeCcr_keeps (s : State) (v : Byte) : Keeps [.ccr, .iDelay] s (s.writeCcr v) := by
  refine ⟨fun f hf => ?_, fun _ _ => rfl⟩
  cases f with
  | ccr | iDelay => exact absurd hf (by simp)
  | _ => rfl

/-- A frame after a frame: the fields of both may change. -/
theorem keeps_trans {fields more : List Field} {s t u : State} (h : Keeps fields s t) (h' : Keeps more t u) :
    Keeps (more ++ fields) s u :=
  ⟨sameExcept_trans h.1 h'.1, fun k hk => (h'.2 k hk).trans (h.2 k hk)⟩

theorem drop_keeps (s : State) (n : Word) : Keeps [.sp] s (s.drop n) :=
  ⟨writer_sp.same s _, fun _ _ => rfl⟩

theorem writeCcrh_keeps (s : State) (v : Byte) : Keeps [.ipl] s (s.writeCcrh v) := by
  refine ⟨fun f hf => ?_, fun _ _ => rfl⟩
  cases f with
  | ipl => exact absurd hf (by simp)
  | _ => rfl

/-- All that `writeCcr` does after an operation that keeps the codes, in the terms of the statements. -/
theorem writesCcr_writeCcr {fields : List Field} {s t : State} (h : Keeps fields s t) (hc : t.ccr = s.ccr) (v : Byte) :
    WritesCcr fields v s (t.writeCcr v) := by
  refine ⟨fun j hj => ?_, by rw [State.writeCcr_iDelay, hc], keeps_trans h (writeCcr_keeps t v)⟩
  rw [writeCcr_bits t v j hj, hc]
  by_cases h6 : j = 6 <;> simp [h6]

/-- A word written to CCRW: the low byte as `writeCcr`, IPL besides. -/
theorem writesCcr_writeCcrw {fields : List Field} {s t : State} (h : Keeps fields s t) (hc : t.ccr = s.ccr) (w : Word) :
    WritesCcr (fields ++ [.ipl]) (loByte w) s (t.writeCcrw w) := by
  obtain ⟨hbits, hdelay, hkeeps⟩ := writesCcr_writeCcr h hc (loByte w)
  obtain ⟨hsame, hmem⟩ := keeps_trans hkeeps (writeCcrh_keeps _ (hiByte w))
  exact ⟨hbits, hdelay, sameExcept_mono hsame (by simp +contextual), hmem⟩

/-- A flag change that a mask makes is made by the write of the masked codes. -/
theorem made_writeCcr_and (s : State) (k : Byte) (fc : FlagChange) (h : fc.Made s.ccr (s.ccr &&& k)) :
    fc.Made s.ccr (s.writeCcr (s.ccr &&& k)).ccr := by
  rwa [writeCcr_and_ccr]

theorem made_writeCcr_or (s : State) (k : Byte) (hk : k.getLsbD 6 = false) (fc : FlagChange)
    (h : fc.Made s.ccr (s.ccr ||| k)) : fc.Made s.ccr (s.writeCcr (s.ccr ||| k)).ccr := by
  rwa [writeCcr_or_ccr s k hk]

/-- CLI: I is cleared, the delay begins when it was set, the other codes stay (48_stack_ccr_system.md R778). -/
theorem writeCcr_clearI (s : State) :
    (s.writeCcr (s.ccr &&& 0xEF)).ccr.getLsbD 4 = false ∧ (s.writeCcr (s.ccr &&& 0xEF)).iDelay = s.ccr.getLsbD 4 ∧
    SameCcrOutside 0x10 s.ccr (s.writeCcr (s.ccr &&& 0xEF)).ccr := by
  rw [writeCcr_and_ccr, SameCcrOutside, BitVec.and_assoc]
  exact ⟨by simp, by simp, rfl⟩

/-- SEI: I is set, the other codes stay (48_stack_ccr_system.md R781). -/
theorem writeCcr_setI (s : State) :
    (s.writeCcr (s.ccr ||| 0x10)).ccr.getLsbD 4 = true ∧
    SameCcrOutside 0x10 s.ccr (s.writeCcr (s.ccr ||| 0x10)).ccr := by
  rw [writeCcr_or_ccr s 0x10 rfl, SameCcrOutside]
  refine ⟨by simp, ?_⟩
  ext j hj
  simp only [BitVec.getElem_and, BitVec.getElem_or, BitVec.getElem_not]
  cases (0x10#8)[j] <;> simp

/-- Settles O47: each instruction is `writeCcr` of its value, the named forms of a mask of the codes themselves. -/
theorem conditionCodeWrites : Obligations.ConditionCodeWrites := by
  intro s
  have hs : Keeps [] s s := ⟨sameExcept_refl _ s, fun _ _ => rfl⟩
  refine ⟨⟨_, rfl, rfl, writesCcr_writeCcr (drop_keeps s 1) rfl _⟩, ⟨_, rfl, rfl, ?ipl, ?pulcw⟩,
    ⟨_, rfl, writesCcr_writeCcr hs rfl _⟩, fun k => ⟨_, rfl, writesCcr_writeCcr hs rfl _⟩,
    fun k => ⟨_, rfl, writesCcr_writeCcr hs rfl _, writeCcr_or_ccr_x s k⟩,
    ⟨_, rfl, made_writeCcr_and s _ _ ?clc, writeCcr_keeps s _⟩, ⟨_, rfl, made_writeCcr_and s _ _ ?clv, writeCcr_keeps s _⟩,
    ⟨_, rfl, made_writeCcr_or s _ rfl _ ?sec, writeCcr_keeps s _⟩,
    ⟨_, rfl, made_writeCcr_or s _ rfl _ ?sev, writeCcr_keeps s _⟩, ⟨_, rfl, ?cli⟩, ⟨_, rfl, ?sei⟩⟩
  case ipl =>
    show (hiByte (s.readWord s.sp)).extractLsb' 0 3 = _
    rw [State.readWord, hiByte_wordOf]
  case pulcw =>
    have h := writesCcr_writeCcrw (drop_keeps s 2) rfl (s.readWord s.sp)
    rwa [State.readWord, loByte_wordOf] at h
  case clc | clv | sec | sev => simp [FlagChange.Made]
  case cli =>
    obtain ⟨hi, hdelay, hsame⟩ := writeCcr_clearI s
    exact ⟨hi, hdelay, hsame, writeCcr_keeps s _⟩
  case sei =>
    obtain ⟨hi, hsame⟩ := writeCcr_setI s
    exact ⟨hi, hsame, writeCcr_keeps s _⟩

end Sys2Proof.Machine
end

section
/-! The X bit through the flag computations (10_state.md R33): every operation's own flags leave it alone, and the X rule
never sets it. -/

namespace Sys2Proof.Machine

open Sys2Proof

/-- The X bit of the condition codes (10_state.md R26). -/
def xBit (ccr : Byte) : Bool := ccr.getLsbD 6

theorem xBit_putFlag (i : Nat) (v : Bool) (ccr : Byte) (hi : i < 8) (h6 : i ≠ 6) :
    xBit (putFlag i v ccr) = xBit ccr := by
  rw [xBit, putFlag_getLsbD i 6 v ccr hi, if_neg (Ne.symm h6)]
  rfl

@[simp] theorem xBit_putC (v : Bool) (ccr : Byte) : xBit (putFlag 0 v ccr) = xBit ccr :=
  xBit_putFlag 0 v ccr (by decide) (by decide)
@[simp] theorem xBit_putV (v : Bool) (ccr : Byte) : xBit (putFlag 1 v ccr) = xBit ccr :=
  xBit_putFlag 1 v ccr (by decide) (by decide)
@[simp] theorem xBit_putZ (v : Bool) (ccr : Byte) : xBit (putFlag 2 v ccr) = xBit ccr :=
  xBit_putFlag 2 v ccr (by decide) (by decide)
@[simp] theorem xBit_putN (v : Bool) (ccr : Byte) : xBit (putFlag 3 v ccr) = xBit ccr :=
  xBit_putFlag 3 v ccr (by decide) (by decide)
@[simp] theorem xBit_putH (v : Bool) (ccr : Byte) : xBit (putFlag 5 v ccr) = xBit ccr :=
  xBit_putFlag 5 v ccr (by decide) (by decide)

section Flags

variable {w : Nat}

@[simp] theorem xBit_flagsNZ (r : BitVec w) (ccr : Byte) : xBit (flagsNZ r ccr) = xBit ccr := by simp [flagsNZ]
@[simp] theorem xBit_flagsNZV (r : BitVec w) (v : Bool) (ccr : Byte) : xBit (flagsNZV r v ccr) = xBit ccr := by
  simp [flagsNZV]
@[simp] theorem xBit_flagsNZVC (r : BitVec w) (v c : Bool) (ccr : Byte) : xBit (flagsNZVC r v c ccr) = xBit ccr := by
  simp [flagsNZVC]
@[simp] theorem xBit_logicFlags (r : BitVec w) (ccr : Byte) : xBit (logicFlags r ccr) = xBit ccr := by simp [logicFlags]
@[simp] theorem xBit_add8Flags (x m : Byte) (c : Bool) (ccr : Byte) : xBit (add8Flags x m c ccr) = xBit ccr := by
  simp [add8Flags]
@[simp] theorem xBit_add16Flags (x m : Word) (c : Bool) (ccr : Byte) : xBit (add16Flags x m c ccr) = xBit ccr := by
  simp [add16Flags]
@[simp] theorem xBit_subFlags (x m : BitVec w) (c : Bool) (ccr : Byte) : xBit (subFlags x m c ccr) = xBit ccr := by
  simp [subFlags]
@[simp] theorem xBit_stickyZ (old new : Byte) : xBit (stickyZ old new) = xBit new := by simp [stickyZ]
@[simp] theorem xBit_clearFlags (ccr : Byte) : xBit (clearFlags ccr) = xBit ccr := by simp [clearFlags]
@[simp] theorem xBit_zeroFlag (r : Word) (ccr : Byte) : xBit (zeroFlag r ccr) = xBit ccr := by simp [zeroFlag]
@[simp] theorem xBit_testFlags (v : BitVec w) (ccr : Byte) : xBit (testFlags v ccr) = xBit ccr := by simp [testFlags]
@[simp] theorem xBit_shiftFlags (r : BitVec w) (c : Bool) (ccr : Byte) : xBit (shiftFlags r c ccr) = xBit ccr := by
  simp [shiftFlags]
@[simp] theorem xBit_productFlags (p : BitVec 32) (ccr : Byte) : xBit (productFlags p ccr) = xBit ccr := by
  simp [productFlags]
@[simp] theorem xBit_quotientFlags (q : Word) (v c : Bool) (ccr : Byte) :
    xBit (quotientFlags q v c ccr) = xBit ccr := by simp [quotientFlags]

/-- An operation of two operands whose condition codes keep X. -/
def KeepsX (op : BitVec w → BitVec w → Byte → BitVec w × Byte) : Prop := ∀ x m ccr, xBit (op x m ccr).2 = xBit ccr

/-- An operation of one operand whose condition codes keep X. -/
def UnaryKeepsX (op : BitVec w → Byte → BitVec w × Byte) : Prop := ∀ v ccr, xBit (op v ccr).2 = xBit ccr

theorem add8_keepsX : KeepsX add8 := fun _ _ _ => xBit_add8Flags ..
theorem adc8_keepsX : KeepsX adc8 := fun _ _ _ => xBit_add8Flags ..
theorem sub8_keepsX : KeepsX sub8 := fun _ _ _ => xBit_subFlags ..
theorem sbc8_keepsX : KeepsX sbc8 := fun _ _ _ => xBit_subFlags ..
theorem add16_keepsX : KeepsX add16 := fun _ _ _ => xBit_add16Flags ..
theorem ade16_keepsX : KeepsX ade16 := fun _ _ _ => (xBit_stickyZ ..).trans (xBit_add16Flags ..)
theorem sub16_keepsX : KeepsX sub16 := fun _ _ _ => xBit_subFlags ..
theorem sbe16_keepsX : KeepsX sbe16 := fun _ _ _ => (xBit_stickyZ ..).trans (xBit_subFlags ..)
theorem logic_keepsX (f : BitVec w → BitVec w → BitVec w) : KeepsX (logic f) := fun _ _ _ => xBit_logicFlags ..

theorem complement_keepsX : UnaryKeepsX (complement (w := w)) := fun _ _ => xBit_flagsNZVC ..
theorem negate_keepsX : UnaryKeepsX (negate (w := w)) := fun _ _ => xBit_flagsNZVC ..
theorem decrement_keepsX : UnaryKeepsX (decrement (w := w)) := fun _ _ => xBit_flagsNZV ..
theorem increment_keepsX : UnaryKeepsX (increment (w := w)) := fun _ _ => xBit_flagsNZV ..
theorem shiftLeft_keepsX : UnaryKeepsX (shiftLeft (w := w)) := fun _ _ => xBit_shiftFlags ..
theorem arithmeticRight_keepsX : UnaryKeepsX (arithmeticRight (w := w)) := fun _ _ => xBit_shiftFlags ..
theorem logicalRight_keepsX : UnaryKeepsX (logicalRight (w := w)) := fun _ _ => xBit_shiftFlags ..
theorem rotateLeft_keepsX : UnaryKeepsX (rotateLeft (w := w)) := fun _ _ => xBit_shiftFlags ..
theorem rotateRight_keepsX : UnaryKeepsX (rotateRight (w := w)) := fun _ _ => xBit_shiftFlags ..

end Flags

/-- Condition codes that the spec leaves open do not include X. -/
theorem xBit_freeFlags (s : State) (mask : Byte) (hmask : xBit mask = false) :
    xBit (s.freeFlags mask).ccr = xBit s.ccr := by
  unfold xBit at hmask ⊢
  rw [State.freeFlags_ccr, BitVec.getLsbD_or, BitVec.getLsbD_and, BitVec.getLsbD_and, BitVec.getLsbD_not, hmask]
  simp

/-- The X rule: what is written never sets X (10_state.md R33). -/
theorem xBit_of_xRule (old value : Byte) (h : xBit (xRule old value) = true) : xBit old = true := by
  simp only [xBit, xRule, BitVec.getLsbD_or, BitVec.getLsbD_and] at h ⊢
  revert h
  cases old.getLsbD 6 <;> simp

/-- An exception entry sets X exactly when its masking says so (60_exceptions.md R812). -/
theorem xBit_mask (s : State) (m : Masking) : xBit (s.mask m).ccr = (xBit s.ccr || m.setsX) := by
  have h := mask_bits s.ccr m.setsX 6 (by decide)
  exact h.trans (by simp [xBit])

end Sys2Proof.Machine
end

section
/-! The operations that touch no device parameter, no register of another module (10_state.md R37 to R40), and do not set X:
all that store to no logical address, one lemma each. -/

namespace Sys2Proof.Machine

open Sys2Proof Sys2Proof.Safety

/-- `t` has the device parameters and the registers of other modules of `s`, and X only if `s` has it. -/
structure Quiet (s t : State) : Prop where
  x : xBit t.ccr = true → xBit s.ccr = true
  rest : (t.device, t.ppage, t.gpage, t.direct, t.vb) = (s.device, s.ppage, s.gpage, s.direct, s.vb)

namespace Quiet

theorem refl (s : State) : Quiet s s := ⟨id, rfl⟩

theorem trans {s t u : State} (h : Quiet s t) (k : Quiet t u) : Quiet s u := ⟨h.x ∘ k.x, k.rest.trans h.rest⟩

/-- The same composition with the second operation given first, for a first one that holds by computation. -/
theorem after {s t u : State} (k : Quiet t u) (h : Quiet s t) : Quiet s u := h.trans k

/-- An operation on CPU registers whose condition codes keep X. -/
theorem flags {s t : State} (hx : xBit t.ccr = xBit s.ccr)
    (rest : (t.device, t.ppage, t.gpage, t.direct, t.vb) = (s.device, s.ppage, s.gpage, s.direct, s.vb)) : Quiet s t :=
  ⟨fun h => hx ▸ h, rest⟩

theorem device {s t : State} (h : Quiet s t) : t.device = s.device := (Prod.mk.inj h.rest).1

theorem pageReg {s t : State} (h : Quiet s t) (r : PageReg) : t.pageReg r = s.pageReg r := by
  obtain ⟨_, hp, hg, hd, hv⟩ : t.device = s.device ∧ t.ppage = s.ppage ∧ t.gpage = s.gpage ∧ t.direct = s.direct ∧
      t.vb = s.vb := by simpa using h.rest
  exact State.pageReg_congr s t r hp hg hd hv

theorem jumpTo (s : State) (target : Word) : Quiet s (s.jumpTo target) := ⟨id, rfl⟩

theorem setRun (s : State) (r : RunState) : Quiet s (s.setRun r) := ⟨id, rfl⟩

theorem setCcr {s : State} {c : Byte} (h : xBit c = xBit s.ccr) : Quiet s (s.setCcr c) := .flags h rfl

theorem freeFlags (s : State) (mask : Byte) (hmask : xBit mask = false) : Quiet s (s.freeFlags mask) :=
  .flags (xBit_freeFlags s mask hmask) rfl

theorem writeCcr (s : State) (v : Byte) : Quiet s (s.writeCcr v) := ⟨xBit_of_xRule s.ccr v, rfl⟩

theorem ite {c : Prop} [Decidable c] {s t u : State} (ht : Quiet s t) (hu : Quiet s u) :
    Quiet s (if c then t else u) := by
  split
  · exact ht
  · exact hu

end Quiet

/-! ### Operands (31_indexed_postbyte.md R147, R148) -/

theorem idxUpdate_quiet (i : Idx) (s : State) : Quiet s (i.update s) := by constructor <;> simp
theorem eaUpdate_quiet (e : Ea) (s : State) : Quiet s (e.update s) := by constructor <;> simp
theorem xeaUpdate_quiet (e : Xea) (s : State) : Quiet s (e.update s) := by constructor <;> simp
theorem src8Update_quiet (o : Src8) (s : State) : Quiet s (o.update s) := by constructor <;> simp
theorem src16Update_quiet (o : Src16) (s : State) : Quiet s (o.update s) := by constructor <;> simp
theorem moveSrc8Update_quiet (o : MoveSrc8) (s : State) : Quiet s (o.update s) := by constructor <;> simp
theorem moveSrc16Update_quiet (o : MoveSrc16) (s : State) : Quiet s (o.update s) := by constructor <;> simp

/-! ### Register operations -/

section Registers

/-- A writer of CPU registers other than the condition codes. -/
structure QuietWriter {α : Type} (set : State → α → State) : Prop where
  quiet : ∀ s v, Quiet s (set s v)
  ccr : ∀ s v, (set s v).ccr = s.ccr

variable {get8 : State → Byte} {get16 : State → Word} {set8 : State → Byte → State} {set16 : State → Word → State}

theorem Quiet.write {α : Type} {set : State → α → State} (hset : QuietWriter set) {s : State} {v : α} {c : Byte}
    (hc : xBit c = xBit s.ccr) : Quiet s ((set s v).setCcr c) :=
  (hset.quiet s v).trans (.setCcr (by rw [hset.ccr, hc]))

/-- Two registers and the condition codes, as the multiplications and divisions write them (46 R651 to R659). -/
theorem Quiet.writeTwo {α β : Type} {set : State → α → State} {set' : State → β → State} (hset : QuietWriter set)
    (hset' : QuietWriter set') {s : State} {v : α} {v' : β} {c : Byte} (hc : xBit c = xBit s.ccr) :
    Quiet s ((set' (set s v) v').setCcr c) :=
  (hset.quiet s v).trans (.write hset' (by rw [hset.ccr, hc]))

theorem quietWriter_a : QuietWriter State.setA := ⟨fun _ _ => ⟨id, rfl⟩, fun _ _ => rfl⟩
theorem quietWriter_b : QuietWriter State.setB := ⟨fun _ _ => ⟨id, rfl⟩, fun _ _ => rfl⟩
theorem quietWriter_d : QuietWriter State.setD := ⟨fun _ _ => ⟨id, rfl⟩, fun _ _ => rfl⟩
theorem quietWriter_x : QuietWriter State.setX := ⟨fun _ _ => ⟨id, rfl⟩, fun _ _ => rfl⟩
theorem quietWriter_y : QuietWriter State.setY := ⟨fun _ _ => ⟨id, rfl⟩, fun _ _ => rfl⟩
theorem quietWriter_sp : QuietWriter State.setSp := ⟨fun _ _ => ⟨id, rfl⟩, fun _ _ => rfl⟩

theorem load8_quiet (hset : QuietWriter set8) (src : Src8) (s : State) : Quiet s (load8 set8 src s) :=
  (src8Update_quiet src s).trans (.write hset (by rw [xBit_logicFlags, hset.ccr]))

theorem load16_quiet (hset : QuietWriter set16) (src : Src16) (s : State) : Quiet s (load16 set16 src s) :=
  (src16Update_quiet src s).trans (.write hset (by rw [xBit_logicFlags, hset.ccr]))

theorem globalLoad8_quiet (hset : QuietWriter set8) (ea : Ea) (s : State) : Quiet s (globalLoad8 set8 ea s) :=
  (eaUpdate_quiet ea s).trans (.write hset (by rw [xBit_logicFlags, hset.ccr]))

theorem globalLoad16_quiet (hset : QuietWriter set16) (ea : Ea) (s : State) : Quiet s (globalLoad16 set16 ea s) :=
  (eaUpdate_quiet ea s).trans (.write hset (by rw [xBit_logicFlags, hset.ccr]))

theorem binary8_quiet (hset : QuietWriter set8) {op : Byte → Byte → Byte → Byte × Byte} (hop : KeepsX op) (src : Src8)
    (s : State) : Quiet s (binary8 get8 set8 op src s) :=
  (src8Update_quiet src s).trans (.write hset (hop ..))

theorem binary16_quiet (hset : QuietWriter set16) {op : Word → Word → Byte → Word × Byte} (hop : KeepsX op)
    (src : Src16) (s : State) : Quiet s (binary16 get16 set16 op src s) :=
  (src16Update_quiet src s).trans (.write hset (hop ..))

theorem compare8_quiet {op : Byte → Byte → Byte → Byte × Byte} (hop : KeepsX op) (src : Src8) (s : State) :
    Quiet s (compare8 get8 op src s) :=
  (src8Update_quiet src s).trans (.setCcr (hop ..))

theorem compare16_quiet {op : Word → Word → Byte → Word × Byte} (hop : KeepsX op) (src : Src16) (s : State) :
    Quiet s (compare16 get16 op src s) :=
  (src16Update_quiet src s).trans (.setCcr (hop ..))

theorem select8_quiet (choose : Byte → Byte → Byte) (idx : Idx) (s : State) : Quiet s (select8 choose idx s) :=
  (idxUpdate_quiet idx s).trans (.write quietWriter_a (xBit_subFlags ..))

theorem select16_quiet (choose : Word → Word → Word) (idx : Idx) (s : State) : Quiet s (select16 choose idx s) :=
  (idxUpdate_quiet idx s).trans (.write quietWriter_d (xBit_subFlags ..))

end Registers

/-! ### Stores to global space, which shows no register of another module (20_memory.md R72) -/

theorem globalWriteByte_quiet (s : State) (ea : Word) (v : Byte) : Quiet s (s.globalWriteByte ea v) := by
  constructor <;> simp

theorem globalStore8_quiet (get : State → Byte) (ea : Ea) (s : State) : Quiet s (globalStore8 get ea s) :=
  (eaUpdate_quiet ea s).trans <| (globalWriteByte_quiet _ _ _).trans (.setCcr (by simp))

theorem globalStore16_quiet (get : State → Word) (ea : Ea) (s : State) : Quiet s (globalStore16 get ea s) :=
  (eaUpdate_quiet ea s).trans <| (globalWriteByte_quiet _ _ _).trans <| (globalWriteByte_quiet _ _ _).trans <|
    .setCcr (by simp)

/-! ### Changes of flow, free values, division -/

theorem branchIf_quiet (s : State) (taken : Bool) (target : Word) : Quiet s (s.branchIf taken target) :=
  .ite ⟨id, rfl⟩ (.refl s)

theorem addCounter_quiet (s : State) (c : Ctr) (delta : Int) : Quiet s (s.addCounter c delta) := by
  cases c <;> exact ⟨id, rfl⟩

theorem loopOn_quiet (delta : Int) (whenZero : Bool) (ctr : Ctr) (rel : BitVec 9) (s : State) :
    Quiet s (loopOn delta whenZero ctr rel s) := (addCounter_quiet s ctr delta).trans (branchIf_quiet ..)

theorem divideByZero_quiet (s : State) : Quiet s (divideByZero s) :=
  (Quiet.setCcr (xBit_putC ..)).trans (.freeFlags _ _ rfl)

theorem divideOverflow_quiet (s : State) : Quiet s (divideOverflow s) :=
  (Quiet.setCcr ((xBit_putV ..).trans (xBit_putC ..))).trans (.freeFlags _ _ rfl)

theorem returnFromInterrupt_quiet (s : State) : Quiet s s.returnFromInterrupt := ⟨xBit_of_xRule s.ccr _, rfl⟩

theorem holdInReset_quiet (s : State) (k : ResetKind) : Quiet s (s.holdInReset k) := ⟨id, rfl⟩

/-! ### Transfers and exchanges (41_transfer_exchange.md R302: the X rule on a write of CCR or CCRW) -/

theorem byteLocWrite_quiet (l : ByteLoc) (s : State) (v : Byte) : Quiet s (l.write s v) := by
  cases l with
  | ccrl => exact .writeCcr s v
  | _ => exact ⟨id, rfl⟩

theorem wordLocWrite_quiet (l : WordLoc) (s : State) (v : Word) : Quiet s (l.write s v) := by
  cases l with
  | ccrw => exact (Quiet.writeCcr s (loByte v)).trans ⟨id, rfl⟩
  | _ => exact ⟨id, rfl⟩

theorem byteLocTouch_quiet (l : ByteLoc) (s : State) : Quiet s (l.touch s) := by
  cases l <;> exact ⟨id, rfl⟩

theorem wordLocTouch_quiet (l : WordLoc) (s : State) : Quiet s (l.touch s) := by
  cases l <;> exact ⟨id, rfl⟩

theorem transferRun_quiet (c : Transfer) (s : State) : Quiet s (c.run s) := by
  cases c with
  | byte src dst => exact (byteLocTouch_quiet src s).trans (byteLocWrite_quiet dst _ _)
  | word src dst => exact (wordLocTouch_quiet src s).trans (wordLocWrite_quiet dst _ _)
  | extend src dst => exact (byteLocTouch_quiet src s).trans (wordLocWrite_quiet dst _ _)
  | signD dst => exact wordLocWrite_quiet dst s _

theorem exchangeRun_quiet (c : Exchange) (s : State) : Quiet s (c.run s) := by
  cases c with
  | bytes p q =>
    exact (byteLocTouch_quiet p s).trans <| (byteLocTouch_quiet q _).trans <|
      (byteLocWrite_quiet p _ _).trans (byteLocWrite_quiet q _ _)
  | words p q =>
    exact (wordLocTouch_quiet p s).trans <| (wordLocTouch_quiet q _).trans <|
      (wordLocWrite_quiet p _ _).trans (wordLocWrite_quiet q _ _)
  | mixed r8 low r16 fill =>
    exact (byteLocTouch_quiet low s).trans <| (wordLocWrite_quiet r16 _ _).trans (byteLocWrite_quiet r8 _ _)
  | intoD r8 => exact ⟨id, rfl⟩
  | fillA => exact ⟨id, rfl⟩

theorem sexWrite_quiet (dst : SexDst) (s : State) (v : Word) : Quiet s (sexWrite dst s v) := by
  cases dst <;> exact ⟨id, rfl⟩

/-! ### Weighted average (49_fuzzy.md R1006, R1007) -/

theorem wavResults_quiet (s : State) : Quiet s s.wavResults :=
  .after (.freeFlags _ _ rfl) (.flags (xBit_putZ ..) rfl)

theorem wavPassEnd_quiet (s : State) (resume : Word) : Quiet s (s.wavPassEnd resume) :=
  .ite ((wavResults_quiet s).trans ⟨id, rfl⟩) ⟨id, rfl⟩

theorem accumulate_quiet (s : State) (f p : Byte) : Quiet s (s.accumulate f p) := ⟨id, rfl⟩

theorem wavPass_quiet (s : State) : Quiet s (wavPass s) := by
  unfold wavPass
  extract_lets t
  have hbegun : Quiet s t := ⟨id, rfl⟩
  exact hbegun.trans <| (accumulate_quiet t _ _).trans (wavPassEnd_quiet _ _)

end Sys2Proof.Machine
end

section
/-! The stores of an operation and what they can reach: a register of another module changes only by a store to its address
(10_state.md R37 to R40), or where CALL and RTC load PPAGE by themselves. -/

namespace Sys2Proof.Machine

open Sys2Proof Sys2Proof.Safety

/-! ### The logical addresses stored to -/

/-- The logical addresses that a list of accesses stores to. -/
def storedAddresses (accesses : List Access) : List Word :=
  accesses.filterMap fun c => if c.kind = .write then c.logical else none

theorem mem_storedAddresses {accesses : List Access} {a : Word} :
    a ∈ storedAddresses accesses ↔ ∃ c ∈ accesses, c.kind = .write ∧ c.logical = some a := by
  simp only [storedAddresses, List.mem_filterMap, Option.ite_none_right_eq_some]

@[simp] theorem storedAddresses_nil : storedAddresses [] = [] := rfl

@[simp] theorem storedAddresses_append (l m : List Access) :
    storedAddresses (l ++ m) = storedAddresses l ++ storedAddresses m := List.filterMap_append ..

@[simp] theorem storedAddresses_reads8 (s : State) (a : Word) : storedAddresses (s.reads8 a) = [] := rfl
@[simp] theorem storedAddresses_reads16 (s : State) (a : Word) : storedAddresses (s.reads16 a) = [] := rfl

@[simp] theorem storedAddresses_fetches (s : State) (a : Word) (n : Nat) : storedAddresses (s.fetches a n) = [] := by
  induction n generalizing a with
  | zero => rfl
  | succ n ih => exact ih (a + 1)

@[simp] theorem storedAddresses_writes (s t : State) (as : List Word) : storedAddresses (s.writes t as) = as := by
  induction as generalizing s with
  | nil => rfl
  | cons a as ih => exact congrArg (a :: ·) (ih _)

@[simp] theorem storedAddresses_idxPointerReads (i : Idx) (s : State) (pcRef : Word) :
    storedAddresses (Idx.pointerReads i s pcRef) = [] := by
  unfold Idx.pointerReads
  split <;> rfl

@[simp] theorem storedAddresses_eaPointerReads (e : Ea) (s : State) : storedAddresses (Ea.pointerReads e s) = [] := by
  cases e with
  | idx i => exact storedAddresses_idxPointerReads i s s.pc
  | _ => rfl

@[simp] theorem storedAddresses_xeaPointerReads (e : Xea) (s : State) (pcRef : Word) :
    storedAddresses (Xea.pointerReads e s pcRef) = [] := by
  cases e with
  | idx i => exact storedAddresses_idxPointerReads i s pcRef
  | ext w => rfl

@[simp] theorem storedAddresses_eaReads8 (e : Ea) (s : State) : storedAddresses (Ea.reads8 e s) = [] := by
  simp [Ea.reads8]
@[simp] theorem storedAddresses_xeaReads8 (e : Xea) (s : State) (pcRef : Word) :
    storedAddresses (Xea.reads8 e s pcRef) = [] := by simp [Xea.reads8]
@[simp] theorem storedAddresses_xeaReads16 (e : Xea) (s : State) (pcRef : Word) :
    storedAddresses (Xea.reads16 e s pcRef) = [] := by simp [Xea.reads16]
@[simp] theorem storedAddresses_idxReads8 (i : Idx) (s : State) : storedAddresses (Idx.reads8 i s) = [] := by
  simp [Idx.reads8]
@[simp] theorem storedAddresses_idxReads16 (i : Idx) (s : State) : storedAddresses (Idx.reads16 i s) = [] := by
  simp [Idx.reads16]

@[simp] theorem storedAddresses_moveSrc8Reads (o : MoveSrc8) (dst : Xea) (s : State) :
    storedAddresses (MoveSrc8.reads o dst s) = [] := by
  cases o with
  | imm v => rfl
  | mem e => exact storedAddresses_xeaReads8 e s _

@[simp] theorem storedAddresses_moveSrc16Reads (o : MoveSrc16) (dst : Xea) (s : State) :
    storedAddresses (MoveSrc16.reads o dst s) = [] := by
  cases o with
  | imm v => rfl
  | mem e => exact storedAddresses_xeaReads16 e s _

@[simp] theorem storedAddresses_enterAccesses (s : State) (offset : Byte) (rtn : Word) :
    storedAddresses (s.enterAccesses offset rtn) = pushAddresses s.sp 5 := by simp [State.enterAccesses]

/-! ### A register of another module after a store -/

theorem pageReg_setPageReg_of_ne {q r : PageReg} (h : q ≠ r) (s : State) (v : Byte) :
    (s.setPageReg q v).pageReg r = s.pageReg r := by
  cases q <;> cases r <;> (try contradiction) <;> rfl

theorem pageReg_noteStore (s : State) (a : Word) (r : PageReg) : (s.noteStore a).pageReg r = s.pageReg r :=
  State.pageReg_congr s _ r (by simp) (by simp) (by simp) (by simp)

theorem pageReg_writeKey (s : State) (k : Nat) (v : Byte) (r : PageReg) : (s.writeKey k v).pageReg r = s.pageReg r :=
  State.pageReg_congr s _ r (by simp) (by simp) (by simp) (by simp)

/-- A store reaches the register mapped at its address and no other (20_memory.md R62). -/
theorem pageReg_writeByte {s : State} {a : Word} {r : PageReg} (h : s.device.registerAt a ≠ some r) (v : Byte) :
    (s.writeByte a v).pageReg r = s.pageReg r := by
  unfold State.writeByte
  split
  case h_1 q hq =>
    have hne : q ≠ r := fun e => h (e ▸ hq)
    rw [pageReg_noteStore, pageReg_setPageReg_of_ne hne]
  case h_2 => rw [pageReg_noteStore, pageReg_writeKey]

/-! ### Confinement -/

/-- What an operation may do to the registers of other modules and to X. -/
structure Grant where
  /-- The logical addresses it may store to. -/
  stores : List Word
  /-- The registers it may load without a store. -/
  loads : List PageReg
  /-- It may set X. -/
  setsX : Prop

/-- From `s` to `t` no device parameter changes, a register of another module only by a granted store or load, and X is set
only if that is granted. -/
structure Confined (g : Grant) (s t : State) : Prop where
  device : t.device = s.device
  pages : ∀ r : PageReg, (∀ a ∈ g.stores, s.device.registerAt a ≠ some r) → r ∉ g.loads → t.pageReg r = s.pageReg r
  x : xBit s.ccr = false → xBit t.ccr = true → g.setsX

namespace Confined

variable {g : Grant} {s t u : State}

theorem quiet (h : Quiet s t) : Confined g s t where
  device := h.device
  pages r _ _ := h.pageReg r
  x hs ht := by simp [h.x ht] at hs

theorem trans (h : Confined g s t) (k : Confined g t u) : Confined g s u where
  device := k.device.trans h.device
  pages r hst hl := (k.pages r (h.device ▸ hst) hl).trans (h.pages r hst hl)
  x hs hu := by
    cases ht : xBit t.ccr with
    | true => exact h.x hs ht
    | false => exact k.x ht hu

theorem thenQuiet (h : Confined g s t) (k : Quiet t u) : Confined g s u := h.trans (.quiet k)

/-- A larger grant confines no more. -/
theorem mono {g' : Grant} (h : Confined g s t) (hst : g.stores ⊆ g'.stores) (hl : g.loads ⊆ g'.loads)
    (hx : g.setsX → g'.setsX) : Confined g' s t where
  device := h.device
  pages r hr hr' := h.pages r (fun a ha => hr a (hst ha)) fun hmem => hr' (hl hmem)
  x hs ht := hx (h.x hs ht)

theorem writeByte {a : Word} (ha : a ∈ g.stores) (s : State) (v : Byte) : Confined g s (s.writeByte a v) where
  device := by simp
  pages r hst _ := pageReg_writeByte (hst a ha) v
  x hs ht := by simp_all

theorem writeWord {a : Word} (ha : a ∈ g.stores) (ha' : a + 1 ∈ g.stores) (s : State) (v : Word) :
    Confined g s (s.writeWord a v) := (writeByte ha s _).trans (writeByte ha' _ _)

theorem setPpage (hl : .ppage ∈ g.loads) (s : State) (v : Byte) : Confined g s (s.setPpage v) where
  device := rfl
  pages r _ hr := by
    cases r with
    | ppage => exact absurd hl hr
    | _ => rfl
  x hs ht := by simp_all

/-! ### The stack -/

theorem setSp (s : State) (v : Word) : Confined g s (s.setSp v) := .quiet ⟨id, rfl⟩

theorem pushByte (h : s.sp - 1 ∈ g.stores) (v : Byte) : Confined g s (s.pushByte v) :=
  (setSp s (s.sp - 1)).trans (writeByte h _ v)

/-- A push reaches the first two of the stack addresses and leaves the rest for the pushes that follow. -/
theorem pushWord {n : Nat} (h : pushAddresses s.sp (n + 1) ⊆ g.stores) (v : Word) :
    Confined g s (s.pushWord v) ∧ pushAddresses (s.pushWord v).sp n ⊆ g.stores := by
  rw [pushAddresses, List.cons_subset, List.cons_subset] at h
  obtain ⟨hhigh, hlow, hrest⟩ := h
  have hnext : s.sp - 2 + 1 = s.sp - 1 := by ring
  exact ⟨(setSp s (s.sp - 2)).trans (writeWord hhigh (hnext ▸ hlow) _ v), by rwa [State.pushWord_sp]⟩

theorem pushFrame (h : pushAddresses s.sp 5 ⊆ g.stores) (rtn : Word) : Confined g s (s.pushFrame rtn) := by
  obtain ⟨c1, h1⟩ := pushWord h rtn
  obtain ⟨c2, h2⟩ := pushWord h1 s.y
  obtain ⟨c3, h3⟩ := pushWord h2 s.x
  obtain ⟨c4, h4⟩ := pushWord h3 (wordOf s.b s.a)
  exact c1.trans <| c2.trans <| c3.trans <| c4.trans (pushWord h4 s.ccrw).1

/-! ### Exception entry (60_exceptions.md R811, R812) -/

theorem toHandler {m : Masking} (hm : m.setsX = true → g.setsX) (s : State) (vec : Word) :
    Confined g s (s.toHandler vec m) where
  device := rfl
  pages r _ _ := State.pageReg_congr s (s.toHandler vec m) r rfl rfl rfl rfl
  x hs ht := by
    have hmask : xBit (s.mask m).ccr = true := ht
    rw [xBit_mask, hs, Bool.false_or] at hmask
    exact hm hmask

theorem enter {m : Masking} (hm : m.setsX = true → g.setsX) (h : pushAddresses s.sp 5 ⊆ g.stores) (offset : Byte)
    (rtn : Word) : Confined g s (s.enter offset rtn m) :=
  ((pushFrame h rtn).trans (toHandler hm _ (s.readWord (s.vectorAddress offset)))).thenQuiet ⟨id, rfl⟩

/-! ### Stores with condition codes, of registers, of results, of selections -/

theorem writeByte_setCcr {a : Word} {c v : Byte} (hq : Quiet s t) (ha : a ∈ g.stores) (hc : xBit c = xBit t.ccr) :
    Confined g s ((t.writeByte a v).setCcr c) :=
  ((quiet hq).trans (writeByte ha t v)).thenQuiet (.setCcr (by simpa using hc))

theorem writeWord_setCcr {a v : Word} {c : Byte} (hq : Quiet s t) (ha : a ∈ g.stores) (ha' : a + 1 ∈ g.stores)
    (hc : xBit c = xBit t.ccr) : Confined g s ((t.writeWord a v).setCcr c) :=
  ((quiet hq).trans (writeWord ha ha' t v)).thenQuiet (.setCcr (by simpa using hc))

theorem store8 (get : State → Byte) {ea : Ea} (ha : ea.addr s ∈ g.stores) : Confined g s (store8 get ea s) :=
  writeByte_setCcr (eaUpdate_quiet ea s) ha (xBit_logicFlags ..)

theorem store16 (get : State → Word) {ea : Ea} (ha : ea.addr s ∈ g.stores) (ha' : ea.addr s + 1 ∈ g.stores) :
    Confined g s (store16 get ea s) :=
  writeWord_setCcr (eaUpdate_quiet ea s) ha ha' (xBit_logicFlags ..)

theorem modify8 {op : Byte → Byte → Byte × Byte} (hop : UnaryKeepsX op) {ea : Xea} (ha : ea.addr s s.pc ∈ g.stores) :
    Confined g s (modify8 op ea s) :=
  writeByte_setCcr (xeaUpdate_quiet ea s) ha (hop ..)

theorem modify16 {op : Word → Byte → Word × Byte} (hop : UnaryKeepsX op) {ea : Xea} (ha : ea.addr s s.pc ∈ g.stores)
    (ha' : ea.addr s s.pc + 1 ∈ g.stores) : Confined g s (modify16 op ea s) :=
  writeWord_setCcr (xeaUpdate_quiet ea s) ha ha' (hop ..)

theorem selectMemory8 (choose : Byte → Byte → Byte) {idx : Idx} (ha : idx.addr s s.pc ∈ g.stores) :
    Confined g s (selectMemory8 choose idx s) :=
  writeByte_setCcr (idxUpdate_quiet idx s) ha (xBit_subFlags ..)

theorem selectMemory16 (choose : Word → Word → Word) {idx : Idx} (ha : idx.addr s s.pc ∈ g.stores)
    (ha' : idx.addr s s.pc + 1 ∈ g.stores) : Confined g s (selectMemory16 choose idx s) :=
  writeWord_setCcr (idxUpdate_quiet idx s) ha ha' (xBit_subFlags ..)

/-- CALL: three pushes, then PPAGE by its own path (47_branch_loop_jump.md R752). -/
theorem callTo (h : pushAddresses s.sp 1 ++ [s.sp - 3] ⊆ g.stores) (hl : .ppage ∈ g.loads) (addr : Word) (page : Byte) :
    Confined g s (callTo addr page s) := by
  rw [List.append_subset, List.cons_subset] at h
  obtain ⟨hword, hbyte, -⟩ := h
  have hsp : (s.pushWord s.pc).sp - 1 = s.sp - 3 := by rw [State.pushWord_sp]; ring
  exact ((pushWord hword s.pc).1.trans <| (pushByte (hsp ▸ hbyte) s.ppage).trans <| setPpage hl _ page).thenQuiet ⟨id, rfl⟩

end Confined

/-! ### Rule evaluation (49_fuzzy.md R1003, R1004): a consequent is stored to only when A is above it -/

theorem raiseOutput_confined {g : Grant} {s : State} {addr : Word} (h : s.readByte addr < s.a → addr ∈ g.stores) :
    Confined g s (raiseOutput s addr) := by
  unfold raiseOutput
  split
  case isTrue hlt => exact .writeByte (h hlt) s s.a
  case isFalse => exact .quiet (.refl s)

theorem mem_outputAccesses {s t : State} {addr : Word} (h : s.readByte addr < s.a) :
    addr ∈ storedAddresses (outputAccesses addr s t) := by
  simp [outputAccesses, h]

theorem revElement_confined {g : Grant} {s t : State} (hst : storedAddresses (revAccesses s t) ⊆ g.stores) :
    Confined g s (revElement s) := by
  simp only [revAccesses, storedAddresses_append, storedAddresses_reads8, List.nil_append] at hst
  unfold revElement
  extract_lets r u addr
  have hu : Quiet s u := ⟨id, rfl⟩
  have hc (c : Bool) : xBit (putFlag 1 c s.ccr) = xBit s.ccr := xBit_putV c s.ccr
  split_ifs with hff hfe hv hv
  · exact .quiet hu
  · exact .quiet (.after (.setCcr (hc _)) ⟨id, rfl⟩)
  · exact .quiet (hu.trans (.setCcr (hc _)))
  · rw [if_neg (not_or.mpr ⟨hff, hfe⟩), if_pos hv] at hst
    exact .trans (.quiet hu) (raiseOutput_confined fun hlt => hst (mem_outputAccesses hlt))
  · exact .quiet ⟨id, rfl⟩

theorem revwElement_confined {g : Grant} {s t : State} (hst : storedAddresses (revwAccesses s t) ⊆ g.stores) :
    Confined g s (revwElement s) := by
  simp only [revwAccesses, storedAddresses_append, storedAddresses_reads16, List.nil_append] at hst
  unfold revwElement
  extract_lets r u
  have hu : Quiet s u := ⟨id, rfl⟩
  have hc (c : Bool) : xBit (putFlag 1 c s.ccr) = xBit s.ccr := xBit_putV c s.ccr
  split_ifs with hff hfe hv hw hv
  · exact .quiet hu
  · exact .quiet (.after (.setCcr (hc _)) ⟨id, rfl⟩)
  · exact .quiet (.after (.setCcr (hc _)) ⟨id, rfl⟩)
  · exact .quiet (hu.trans (.setCcr (hc _)))
  · rw [if_neg hff, if_neg hfe, if_pos hv] at hst
    exact .trans (.quiet hu) (raiseOutput_confined fun hlt => hst (mem_outputAccesses hlt))
  · exact .quiet ⟨id, rfl⟩

/-- One element of REV: what follows it changes the free condition codes, the run state and PC. -/
theorem execRev_confined {g : Grant} {s t : State} (h : execRev s = .next t)
    (hst : storedAddresses (revAccesses s t) ⊆ g.stores) : Confined g s t := by
  have he := (revElement_confined hst).thenQuiet (.freeFlags _ 0x2D rfl)
  unfold execRev at h
  split at h
  · injection h with h; exact h ▸ he.thenQuiet ⟨id, rfl⟩
  · injection h with h; exact h ▸ he.thenQuiet ⟨id, rfl⟩

theorem execRevw_confined {g : Grant} {s t : State} (h : execRevw s = .next t)
    (hst : storedAddresses (revwAccesses s t) ⊆ g.stores) : Confined g s t := by
  have he := (revwElement_confined hst).thenQuiet (.freeFlags _ 0x2C rfl)
  unfold execRevw at h
  split at h
  · injection h with h; exact h ▸ he.thenQuiet ⟨id, rfl⟩
  · injection h with h; exact h ▸ he.thenQuiet ⟨id, rfl⟩

/-- A suspended WAV pushes its three sums (49_fuzzy.md R1008). -/
theorem wavSuspend_confined {g : Grant} {s : State} (h : pushAddresses s.sp 3 ⊆ g.stores) :
    Confined g s (wavSuspend s) := by
  unfold wavSuspend
  extract_lets t
  have hbegun : Quiet s t := .after (.freeFlags _ _ rfl) ⟨id, rfl⟩
  obtain ⟨c3, h3⟩ := Confined.pushWord (s := t) h s.tmp3
  obtain ⟨c2, h2⟩ := Confined.pushWord h3 s.tmp2
  exact .trans (.quiet hbegun) <| c3.trans <| c2.trans (Confined.pushWord h2 s.tmp1).1

end Sys2Proof.Machine
end

section
/-! What each instruction may change of the registers of other modules and of X: the registers mapped where it stores, PPAGE by
CALL and RTC, X never (10_state.md R33, R37 to R40). -/

namespace Sys2Proof.Machine

open Sys2Proof Sys2Proof.Safety

/-- The registers of other modules that an instruction loads by a path of its own (10_state.md R37). -/
def instrLoads : Instr → List PageReg
  | .rtc | .call _ => [.ppage]
  | _ => []

/-- What an instruction run from `s` to `t` is granted: its own stores and loads, never X. -/
def instrGrant (i : Instr) (s t : State) : Grant where
  stores := storedAddresses (Instr.accesses i s t)
  loads := instrLoads i
  setsX := False

@[simp] theorem instrGrant_stores (i : Instr) (s t : State) :
    (instrGrant i s t).stores = storedAddresses (Instr.accesses i s t) := rfl

/-- A next state that an instruction answers is confined to the instruction's grant. -/
def ConfinedAnswer (i : Instr) (s : State) (o : Host.Outcome State Fault Refusal) : Prop :=
  ∀ t, o = .next t → Confined (instrGrant i s t) s t

section Answers

variable {i : Instr} {s t : State} {o p : Host.Outcome State Fault Refusal}

theorem answer_confined (h : Confined (instrGrant i s t) s t) : ConfinedAnswer i s (.next t) := by
  intro u hu
  injection hu with hu
  exact hu ▸ h

theorem answer_quiet (h : Quiet s t) : ConfinedAnswer i s (.next t) := answer_confined (.quiet h)

theorem answer_refused (r : Refusal) : ConfinedAnswer i s (.refused r) := by
  intro u hu
  injection hu

theorem answer_ite {c : Prop} [Decidable c] (ho : ConfinedAnswer i s o) (hp : ConfinedAnswer i s p) :
    ConfinedAnswer i s (if c then o else p) := by
  split
  · exact ho
  · exact hp

end Answers

theorem loadAddress_answer {i : Instr} {set : State → Word → State} (hset : QuietWriter set) (idx : Idx) (s : State) :
    ConfinedAnswer i s (loadAddress set idx s) :=
  answer_ite (answer_quiet ((idxUpdate_quiet idx s).trans (hset.quiet _ _))) (answer_refused _)

/-! ### The storing operations, by the accesses of the instruction -/

section Stores

variable {i : Instr} {s : State}

theorem store8_answer (get : State → Byte) (ea : Ea)
    (hacc : ∀ t, Instr.accesses i s t = Ea.pointerReads ea s ++ s.writes t [ea.addr s]) :
    ConfinedAnswer i s (.next (store8 get ea s)) :=
  answer_confined (.store8 get (by simp [hacc]))

theorem store16_answer (get : State → Word) (ea : Ea)
    (hacc : ∀ t, Instr.accesses i s t = Ea.pointerReads ea s ++ s.writes t [ea.addr s, ea.addr s + 1]) :
    ConfinedAnswer i s (.next (store16 get ea s)) :=
  answer_confined (.store16 get (by simp [hacc]) (by simp [hacc]))

theorem modify8_answer {op : Byte → Byte → Byte × Byte} (hop : UnaryKeepsX op) (ea : Xea)
    (hacc : ∀ t, Instr.accesses i s t = Xea.reads8 ea s s.pc ++ s.writes t [ea.addr s s.pc]) :
    ConfinedAnswer i s (.next (modify8 op ea s)) :=
  answer_confined (.modify8 hop (by simp [hacc]))

theorem modify16_answer {op : Word → Byte → Word × Byte} (hop : UnaryKeepsX op) (ea : Xea)
    (hacc : ∀ t, Instr.accesses i s t = Xea.reads16 ea s s.pc ++ s.writes t [ea.addr s s.pc, ea.addr s s.pc + 1]) :
    ConfinedAnswer i s (.next (modify16 op ea s)) :=
  answer_confined (.modify16 hop (by simp [hacc]) (by simp [hacc]))

theorem selectMemory8_answer (choose : Byte → Byte → Byte) (idx : Idx)
    (hacc : ∀ t, Instr.accesses i s t = Idx.reads8 idx s ++ s.writes t [idx.addr s s.pc]) :
    ConfinedAnswer i s (.next (selectMemory8 choose idx s)) :=
  answer_confined (.selectMemory8 choose (by simp [hacc]))

theorem selectMemory16_answer (choose : Word → Word → Word) (idx : Idx)
    (hacc : ∀ t, Instr.accesses i s t = Idx.reads16 idx s ++ s.writes t [idx.addr s s.pc, idx.addr s s.pc + 1]) :
    ConfinedAnswer i s (.next (selectMemory16 choose idx s)) :=
  answer_confined (.selectMemory16 choose (by simp [hacc]) (by simp [hacc]))

theorem modifyBits_answer (f test : Byte → Byte) (ea : Ea)
    (hacc : ∀ t, Instr.accesses i s t = Ea.reads8 ea s ++ s.writes t [ea.addr s]) :
    ConfinedAnswer i s (modifyBits f test ea s) :=
  answer_ite (answer_confined (.writeByte_setCcr (eaUpdate_quiet ea s) (by simp [hacc]) (xBit_logicFlags ..)))
    (answer_refused _)

theorem pushByte_answer (v : Byte) (hacc : ∀ t, Instr.accesses i s t = s.writes t [s.sp - 1]) :
    ConfinedAnswer i s (.next (s.pushByte v)) :=
  answer_confined (.pushByte (by simp [hacc]) v)

theorem pushWord_answer (v : Word) (hacc : ∀ t, Instr.accesses i s t = s.writes t (pushAddresses s.sp 1)) :
    ConfinedAnswer i s (.next (s.pushWord v)) :=
  answer_confined (Confined.pushWord (n := 0) (by simp [hacc]) v).1

/-- SWI and TRAP: the masking of both leaves X (60_exceptions.md R812). -/
theorem enterTrap_answer (offset : Byte) (hacc : ∀ t, Instr.accesses i s t = s.enterAccesses offset s.pc) :
    ConfinedAnswer i s (.next (s.enter offset s.pc .trap)) :=
  answer_confined (.enter (m := .trap) nofun (by simp [hacc]) offset s.pc)

end Stores

theorem branchOnBits_answer {i : Instr} (test : Byte → Bool) (ea : Ea) (rel : Byte) (s : State) :
    ConfinedAnswer i s (branchOnBits test ea rel s) :=
  answer_ite (answer_quiet ((eaUpdate_quiet ea s).trans (branchIf_quiet ..))) (answer_refused _)

theorem execBclr_answer (ea : Ea) (mask : Byte) (s : State) : ConfinedAnswer (.bclr ea mask) s (execBclr ea mask s) :=
  modifyBits_answer _ _ ea fun _ => rfl

theorem execBset_answer (ea : Ea) (mask : Byte) (s : State) : ConfinedAnswer (.bset ea mask) s (execBset ea mask s) :=
  modifyBits_answer _ _ ea fun _ => rfl

theorem execBtas_answer (ea : Ea) (mask : Byte) (s : State) : ConfinedAnswer (.btas ea mask) s (execBtas ea mask s) :=
  modifyBits_answer _ _ ea fun _ => rfl

theorem execBrclr_answer (ea : Ea) (mask rel : Byte) (s : State) :
    ConfinedAnswer (.brclr ea mask rel) s (execBrclr ea mask rel s) := branchOnBits_answer _ ea rel s

theorem execBrset_answer (ea : Ea) (mask rel : Byte) (s : State) :
    ConfinedAnswer (.brset ea mask rel) s (execBrset ea mask rel s) := branchOnBits_answer _ ea rel s

/-- CALL pushes below the SP that its operand leaves (47_branch_loop_jump.md R752). -/
theorem execCall_answer (target : CallTarget) (s : State) : ConfinedAnswer (.call target) s (execCall target s) := by
  have hload (t : State) : .ppage ∈ (instrGrant (.call target) s t).loads := List.mem_singleton.mpr rfl
  have hacc (t : State) : Instr.accesses (.call target) s t = callAccesses target s := rfl
  cases target with
  | ext addr page => exact answer_confined (.callTo (by simp [hacc, callAccesses]) (hload _) addr page)
  | idx i page =>
    refine answer_ite (answer_confined ?_) (answer_refused _)
    exact .trans (.quiet (idxUpdate_quiet i s)) (.callTo (by simp [hacc, callAccesses]) (hload _) _ page)
  | ind i =>
    refine answer_ite (answer_refused _) (answer_confined ?_)
    exact .callTo (by simp [hacc, callAccesses]) (hload _) _ _

/-- RTC loads PPAGE between its pulls (47_branch_loop_jump.md R753). -/
theorem execRtc_answer (s : State) : ConfinedAnswer .rtc s (execRtc s) := by
  have hload (t : State) : .ppage ∈ (instrGrant .rtc s t).loads := List.mem_singleton.mpr rfl
  exact answer_confined (Confined.trans (t := (s.drop 1).setPpage (s.readByte s.sp))
    (Confined.trans (t := s.drop 1) (.quiet ⟨id, rfl⟩) (.setPpage (hload _) _ _)) (.quiet ⟨id, rfl⟩))

theorem execClr_answer (ea : Xea) (s : State) : ConfinedAnswer (.clr ea) s (execClr ea s) := by
  have hacc (t : State) : Instr.accesses (.clr ea) s t =
    Xea.pointerReads ea s s.pc ++ s.writes t [ea.addr s s.pc] := rfl
  exact answer_confined (.writeByte_setCcr (xeaUpdate_quiet ea s) (by simp [hacc]) (xBit_clearFlags _))

theorem execClrw_answer (ea : Xea) (s : State) : ConfinedAnswer (.clrw ea) s (execClrw ea s) := by
  have hacc (t : State) : Instr.accesses (.clrw ea) s t =
    Xea.pointerReads ea s s.pc ++ s.writes t [ea.addr s s.pc, ea.addr s s.pc + 1] := rfl
  exact answer_confined
    (.writeWord_setCcr (xeaUpdate_quiet ea s) (by simp [hacc]) (by simp [hacc]) (xBit_clearFlags _))

theorem execJsr_answer (target : Ea) (s : State) : ConfinedAnswer (.jsr target) s (execJsr target s) := by
  have hacc (t : State) : Instr.accesses (.jsr target) s t =
    Ea.pointerReads target s ++ s.writes t (pushAddresses (target.update s).sp 1) := rfl
  have hpush (t : State) := Confined.pushWord (g := instrGrant (.jsr target) s t) (s := target.update s) (n := 0)
    (by simp [hacc]) s.pc
  exact answer_confined (.trans (.quiet (eaUpdate_quiet target s)) ((hpush _).1.thenQuiet (.jumpTo _ _)))

theorem execBsr_answer (rel : Byte) (s : State) : ConfinedAnswer (.bsr rel) s (execBsr rel s) := by
  have hacc (t : State) : Instr.accesses (.bsr rel) s t = s.writes t (pushAddresses s.sp 1) := rfl
  have hpush (t : State) := Confined.pushWord (g := instrGrant (.bsr rel) s t) (s := s) (n := 0) (by simp [hacc]) s.pc
  exact answer_confined ((hpush _).1.thenQuiet (.jumpTo _ _))

theorem execEmacs_answer (addr : Word) (s : State) : ConfinedAnswer (.emacs addr) s (execEmacs addr s) := by
  have hacc (t : State) : Instr.accesses (.emacs addr) s t =
    s.reads16 s.x ++ s.reads16 s.y ++ s.reads16 addr ++ s.reads16 (addr + 2) ++
      s.writes t [addr, addr + 1, addr + 2, addr + 3] := rfl
  unfold execEmacs
  extract_lets i m r t
  have hstores (u : State) : Confined (instrGrant (.emacs addr) s u) s t :=
    .trans (.writeWord (by simp [hacc]) (by simp [hacc]) s _)
      (.writeWord (by simp [hacc]) (by simp [hacc, BitVec.add_assoc]) _ _)
  exact answer_confined ((hstores _).thenQuiet (.setCcr (by simp [t])))

theorem execMem_answer (s : State) : ConfinedAnswer .mem s (execMem s) := by
  have hacc (t : State) : Instr.accesses .mem s t = s.reads16 s.x ++ s.reads16 (s.x + 2) ++ s.writes t [s.y] := rfl
  exact answer_confined (.thenQuiet (.writeByte (by simp [hacc]) s _) (.after (.freeFlags _ _ rfl) ⟨id, rfl⟩))

theorem execRev_answer (s : State) : ConfinedAnswer .rev s (execRev s) := fun _ h =>
  execRev_confined h (List.Subset.refl _)

theorem execRevw_answer (s : State) : ConfinedAnswer .revw s (execRevw s) := fun _ h =>
  execRevw_confined h (List.Subset.refl _)

/-- wavr pulls its sums before it goes on (49_fuzzy.md R1006). -/
theorem execWavr_answer (s : State) : ConfinedAnswer .wavr s (execWavr s) := by
  unfold execWavr
  extract_lets t
  have hpulled : Quiet s t := ⟨by simp [t], by simp [t]⟩
  exact answer_quiet (hpulled.trans <| (accumulate_quiet t _ _).trans (wavPassEnd_quiet _ _))

/-- The destination's address is formed, and stored to, after the source is read (40_load_store_move.md R229). -/
theorem execMovb_answer (src : MoveSrc8) (dst : Xea) (s : State) :
    ConfinedAnswer (.movb src dst) s (execMovb src dst s) := by
  have hacc (t : State) : Instr.accesses (.movb src dst) s t = MoveSrc8.reads src dst s ++
    Xea.pointerReads dst (src.update s) (src.update s).pc ++
      (src.update s).writes t [dst.addr (src.update s) (src.update s).pc] := rfl
  exact answer_confined <| .trans (.quiet ((moveSrc8Update_quiet src s).trans (xeaUpdate_quiet dst _)))
    (.writeByte (by simp [hacc]) _ _)

theorem execMovw_answer (src : MoveSrc16) (dst : Xea) (s : State) :
    ConfinedAnswer (.movw src dst) s (execMovw src dst s) := by
  have hacc (t : State) : Instr.accesses (.movw src dst) s t = MoveSrc16.reads src dst s ++
    Xea.pointerReads dst (src.update s) (src.update s).pc ++ (src.update s).writes t
      [dst.addr (src.update s) (src.update s).pc, dst.addr (src.update s) (src.update s).pc + 1] := rfl
  exact answer_confined <| .trans (.quiet ((moveSrc16Update_quiet src s).trans (xeaUpdate_quiet dst _)))
    (.writeWord (by simp [hacc]) (by simp [hacc]) _ _)

theorem execSex_answer (op : SexOp) (s : State) : ConfinedAnswer (.sex op) s (execSex op s) := by
  cases op with
  | byte src dst => exact answer_quiet (sexWrite_quiet dst s _)
  | _ => exact answer_quiet ⟨id, rfl⟩

theorem execWai_answer (s : State) : ConfinedAnswer .wai s (execWai s) := by
  have hacc (t : State) : Instr.accesses .wai s t = s.writes t (pushAddresses s.sp 5) := rfl
  exact answer_confined (.thenQuiet (.pushFrame (by simp [hacc]) s.pc) (.setRun _ _))

theorem execStop_answer (s : State) : ConfinedAnswer .stop s (execStop s) := by
  have hacc (t : State) : Instr.accesses .stop s t =
    if s.ccr.getLsbD 7 then [] else s.writes t (pushAddresses s.sp 5) := rfl
  unfold execStop
  split
  case isTrue => exact answer_quiet (.refl s)
  case isFalse hs =>
    simp only [hs, Bool.false_eq_true, if_false] at hacc
    exact answer_confined (.thenQuiet (.pushFrame (by simp [hacc]) s.pc) (.setRun _ _))

/-- Every instruction stays within its grant. -/
theorem exec_answer (i : Instr) (s : State) : ConfinedAnswer i s (exec i s) := by
  cases i with
  | ldaa src => exact answer_quiet (load8_quiet quietWriter_a src s)
  | ldab src => exact answer_quiet (load8_quiet quietWriter_b src s)
  | ldd src => exact answer_quiet (load16_quiet quietWriter_d src s)
  | lds src => exact answer_quiet (load16_quiet quietWriter_sp src s)
  | ldx src => exact answer_quiet (load16_quiet quietWriter_x src s)
  | ldy src => exact answer_quiet (load16_quiet quietWriter_y src s)
  | staa ea | stab ea => exact store8_answer _ ea fun _ => rfl
  | std ea | sts ea | stx ea | sty ea => exact store16_answer _ ea fun _ => rfl
  | leas idx => exact loadAddress_answer quietWriter_sp idx s
  | leax idx => exact loadAddress_answer quietWriter_x idx s
  | leay idx => exact loadAddress_answer quietWriter_y idx s
  | gldaa ea => exact answer_quiet (globalLoad8_quiet quietWriter_a ea s)
  | gldab ea => exact answer_quiet (globalLoad8_quiet quietWriter_b ea s)
  | gldd ea => exact answer_quiet (globalLoad16_quiet quietWriter_d ea s)
  | glds ea => exact answer_quiet (globalLoad16_quiet quietWriter_sp ea s)
  | gldx ea => exact answer_quiet (globalLoad16_quiet quietWriter_x ea s)
  | gldy ea => exact answer_quiet (globalLoad16_quiet quietWriter_y ea s)
  | gstaa ea | gstab ea => exact answer_quiet (globalStore8_quiet _ ea s)
  | gstd ea | gsts ea | gstx ea | gsty ea => exact answer_quiet (globalStore16_quiet _ ea s)
  | aba => exact answer_quiet (.flags (add8_keepsX ..) rfl)
  | sba | cba => exact answer_quiet (.flags (sub8_keepsX ..) rfl)
  | adca src => exact answer_quiet (binary8_quiet quietWriter_a adc8_keepsX src s)
  | adcb src => exact answer_quiet (binary8_quiet quietWriter_b adc8_keepsX src s)
  | adda src => exact answer_quiet (binary8_quiet quietWriter_a add8_keepsX src s)
  | addb src => exact answer_quiet (binary8_quiet quietWriter_b add8_keepsX src s)
  | addd src => exact answer_quiet (binary16_quiet quietWriter_d add16_keepsX src s)
  | addx src => exact answer_quiet (binary16_quiet quietWriter_x add16_keepsX src s)
  | addy src => exact answer_quiet (binary16_quiet quietWriter_y add16_keepsX src s)
  | aded src => exact answer_quiet (binary16_quiet quietWriter_d ade16_keepsX src s)
  | adex src => exact answer_quiet (binary16_quiet quietWriter_x ade16_keepsX src s)
  | adey src => exact answer_quiet (binary16_quiet quietWriter_y ade16_keepsX src s)
  | sbca src => exact answer_quiet (binary8_quiet quietWriter_a sbc8_keepsX src s)
  | sbcb src => exact answer_quiet (binary8_quiet quietWriter_b sbc8_keepsX src s)
  | suba src => exact answer_quiet (binary8_quiet quietWriter_a sub8_keepsX src s)
  | subb src => exact answer_quiet (binary8_quiet quietWriter_b sub8_keepsX src s)
  | subd src => exact answer_quiet (binary16_quiet quietWriter_d sub16_keepsX src s)
  | subx src => exact answer_quiet (binary16_quiet quietWriter_x sub16_keepsX src s)
  | suby src => exact answer_quiet (binary16_quiet quietWriter_y sub16_keepsX src s)
  | sbed src => exact answer_quiet (binary16_quiet quietWriter_d sbe16_keepsX src s)
  | sbex src => exact answer_quiet (binary16_quiet quietWriter_x sbe16_keepsX src s)
  | sbey src => exact answer_quiet (binary16_quiet quietWriter_y sbe16_keepsX src s)
  | cmpa src | cmpb src => exact answer_quiet (compare8_quiet sub8_keepsX src s)
  | cpd src | cps src | cpx src | cpy src => exact answer_quiet (compare16_quiet sub16_keepsX src s)
  | cped src | cpes src | cpex src | cpey src => exact answer_quiet (compare16_quiet sbe16_keepsX src s)
  | daa => exact answer_quiet (.after (.freeFlags _ _ rfl) (.flags (by simp) rfl))
  | anda src | eora src | oraa src => exact answer_quiet (binary8_quiet quietWriter_a (logic_keepsX _) src s)
  | andb src | eorb src | orab src => exact answer_quiet (binary8_quiet quietWriter_b (logic_keepsX _) src s)
  | andx src | eorx src | orx src => exact answer_quiet (binary16_quiet quietWriter_x (logic_keepsX _) src s)
  | andy src | eory src | ory src => exact answer_quiet (binary16_quiet quietWriter_y (logic_keepsX _) src s)
  | bita src | bitb src => exact answer_quiet (compare8_quiet (logic_keepsX _) src s)
  | bitx src | bity src => exact answer_quiet (compare16_quiet (logic_keepsX _) src s)
  | bclr ea mask => exact execBclr_answer ea mask s
  | bset ea mask => exact execBset_answer ea mask s
  | btas ea mask => exact execBtas_answer ea mask s
  | clr ea => exact execClr_answer ea s
  | clrw ea => exact execClrw_answer ea s
  | clra | clrb | clrx | clry => exact answer_quiet (.flags (xBit_clearFlags _) rfl)
  | com ea => exact modify8_answer complement_keepsX ea fun _ => rfl
  | neg ea => exact modify8_answer negate_keepsX ea fun _ => rfl
  | dec ea => exact modify8_answer decrement_keepsX ea fun _ => rfl
  | inc ea => exact modify8_answer increment_keepsX ea fun _ => rfl
  | asl ea | lsl ea => exact modify8_answer shiftLeft_keepsX ea fun _ => rfl
  | asr ea => exact modify8_answer arithmeticRight_keepsX ea fun _ => rfl
  | lsr ea => exact modify8_answer logicalRight_keepsX ea fun _ => rfl
  | rol ea => exact modify8_answer rotateLeft_keepsX ea fun _ => rfl
  | ror ea => exact modify8_answer rotateRight_keepsX ea fun _ => rfl
  | comw ea => exact modify16_answer complement_keepsX ea fun _ => rfl
  | negw ea => exact modify16_answer negate_keepsX ea fun _ => rfl
  | decw ea => exact modify16_answer decrement_keepsX ea fun _ => rfl
  | incw ea => exact modify16_answer increment_keepsX ea fun _ => rfl
  | aslw ea | lslw ea => exact modify16_answer shiftLeft_keepsX ea fun _ => rfl
  | asrw ea => exact modify16_answer arithmeticRight_keepsX ea fun _ => rfl
  | lsrw ea => exact modify16_answer logicalRight_keepsX ea fun _ => rfl
  | rolw ea => exact modify16_answer rotateLeft_keepsX ea fun _ => rfl
  | rorw ea => exact modify16_answer rotateRight_keepsX ea fun _ => rfl
  | coma | comb | comx | comy => exact answer_quiet (.flags (complement_keepsX ..) rfl)
  | nega | negb | negx | negy => exact answer_quiet (.flags (negate_keepsX ..) rfl)
  | deca | decb | decx | decy => exact answer_quiet (.flags (decrement_keepsX ..) rfl)
  | inca | incb | incx | incy => exact answer_quiet (.flags (increment_keepsX ..) rfl)
  | asla | aslb | asld | aslx | asly | lsla | lslb | lsld | lslx | lsly =>
    exact answer_quiet (.flags (shiftLeft_keepsX ..) rfl)
  | asra | asrb | asrx | asry => exact answer_quiet (.flags (arithmeticRight_keepsX ..) rfl)
  | lsra | lsrb | lsrd | lsrx | lsry => exact answer_quiet (.flags (logicalRight_keepsX ..) rfl)
  | rola | rolb | rolx | roly => exact answer_quiet (.flags (rotateLeft_keepsX ..) rfl)
  | rora | rorb | rorx | rory => exact answer_quiet (.flags (rotateRight_keepsX ..) rfl)
  | dex | dey | inx | iny => exact answer_quiet (.flags (xBit_zeroFlag ..) rfl)
  | tst ea | tstw ea => exact answer_quiet ((xeaUpdate_quiet ea s).trans (.setCcr (xBit_testFlags ..)))
  | tsta | tstb | tstx | tsty => exact answer_quiet (.flags (xBit_testFlags ..) rfl)
  | mul => exact answer_quiet (.flags (xBit_putC ..) rfl)
  | emul | emuls => exact answer_quiet (.writeTwo quietWriter_y quietWriter_d (xBit_productFlags ..))
  | emacs addr => exact execEmacs_answer addr s
  | ediv | edivs =>
    exact answer_ite (answer_quiet (divideByZero_quiet s)) <| answer_ite (answer_quiet (divideOverflow_quiet s)) <|
      answer_quiet (.writeTwo quietWriter_y quietWriter_d (xBit_flagsNZVC ..))
  | idiv | fdiv =>
    exact answer_ite (answer_quiet (.flags (xBit_quotientFlags ..) rfl)) <|
      answer_quiet (.writeTwo quietWriter_x quietWriter_d (xBit_quotientFlags ..))
  | idivs =>
    exact answer_ite (answer_quiet (divideByZero_quiet s)) <|
      answer_ite (answer_quiet (.after (divideOverflow_quiet _) ⟨id, rfl⟩)) <|
      answer_quiet (.writeTwo quietWriter_x quietWriter_d (xBit_flagsNZVC ..))
  | maxa idx | mina idx => exact answer_quiet (select8_quiet _ idx s)
  | emaxd idx | emind idx => exact answer_quiet (select16_quiet _ idx s)
  | maxm idx | minm idx => exact selectMemory8_answer _ idx fun _ => rfl
  | emaxm idx | eminm idx => exact selectMemory16_answer _ idx fun _ => rfl
  | tbl idx | etbl idx =>
    exact answer_ite (answer_quiet ((idxUpdate_quiet idx s).trans (.flags (by simp) rfl))) (answer_refused _)
  | bcc | bcs | beq | bge | bgt | bhi | bhs | ble | blo | bls | blt | bmi | bne | bpl | bra | brn | bvc | bvs | lbcc
  | lbcs | lbeq | lbge | lbgt | lbhi | lbhs | lble | lblo | lbls | lblt | lbmi | lbne | lbpl | lbra | lbrn | lbvc
  | lbvs => exact answer_quiet (branchIf_quiet ..)
  | brclr ea mask rel => exact execBrclr_answer ea mask rel s
  | brset ea mask rel => exact execBrset_answer ea mask rel s
  | dbeq ctr rel | dbne ctr rel | ibeq ctr rel | ibne ctr rel | tbeq ctr rel | tbne ctr rel =>
    exact answer_quiet (loopOn_quiet _ _ ctr rel s)
  | jmp target => exact answer_quiet ((xeaUpdate_quiet target s).trans ⟨id, rfl⟩)
  | jsr target => exact execJsr_answer target s
  | bsr rel => exact execBsr_answer rel s
  | call target => exact execCall_answer target s
  | rtc => exact execRtc_answer s
  | psha | pshb | pshc => exact pushByte_answer _ fun _ => rfl
  | pshcw | pshd | pshx | pshy => exact pushWord_answer _ fun _ => rfl
  | pulc => exact answer_quiet (.after (.writeCcr _ _) ⟨id, rfl⟩)
  | pulcw => exact answer_quiet (.after (wordLocWrite_quiet .ccrw _ _) ⟨id, rfl⟩)
  | andcc | orcc | clc | cli | clv | sec | sei | sev | tap => exact answer_quiet (.writeCcr s _)
  | bgnd => exact answer_quiet (.ite ⟨id, rfl⟩ ⟨id, rfl⟩)
  | swi => exact enterTrap_answer _ fun _ => rfl
  | trap tn => exact answer_ite (enterTrap_answer _ fun _ => rfl) (answer_refused _)
  | rti => exact answer_quiet (returnFromInterrupt_quiet s)
  | stop => exact execStop_answer s
  | wai => exact execWai_answer s
  | mem => exact execMem_answer s
  | rev => exact execRev_answer s
  | revw => exact execRevw_answer s
  | wav => exact answer_quiet ⟨id, by simp⟩
  | wavr => exact execWavr_answer s
  | tfr extended src dst => exact answer_quiet (transferRun_quiet _ s)
  | exg extended src dst => exact answer_quiet (exchangeRun_quiet _ s)
  | sex op => exact execSex_answer op s
  | tab | tba => exact answer_quiet (.flags (xBit_logicFlags ..) rfl)
  | movb src dst => exact execMovb_answer src dst s
  | movw src dst => exact execMovw_answer src dst s
  | abx | aby | des | ins | rts | pula | pulb | puld | pulx | puly | nop | tpa | tsx | tsy | txs | tys | xgdx
  | xgdy => exact answer_quiet ⟨id, rfl⟩

end Sys2Proof.Machine
end

section
/-! What each step may change of the registers of other modules and of X, and the two statements about it (10_state.md R33, R37
to R40): a step stores where its accesses say, loads them all when a reset ends, and sets X only for an XIRQ or at the end of a
reset. -/

namespace Sys2Proof.Machine

open Sys2Proof Sys2Proof.Safety

/-- The registers of other modules that a step loads without a store: all of them at the end of a reset, else those of the
instruction that is fetched. -/
def stepLoads (s : State) : List PageReg :=
  match s.run with
  | .inReset _ => [.ppage, .gpage, .direct, .vb]
  | .running | .waiting | .stopped | .background | .inRev | .inRevw | .inWav =>
    match s.fetch with
    | .ok (i, _) => instrLoads i
    | .error _ => []

/-- What a step of sample `p` is granted. -/
def stepGrant (p : Sample) (s : State) : Grant where
  stores := storedAddresses (stepAccesses p s)
  loads := stepLoads s
  setsX := p.reset = none ∧ ((∃ k, s.run = .inReset k) ∨ p.xirq = true)

/-- Only an XIRQ is recognised with a masking that sets X (60_exceptions.md R804, R812). -/
theorem recognised_setsX {s : State} {p : Sample} {delayed : Bool} {offset : Byte} {m : Masking}
    (h : s.recognised p delayed = some (offset, m)) (hm : m.setsX = true) : p.xirq = true := by
  unfold State.recognised at h
  split at h
  case isTrue hx => exact (Bool.and_eq_true_iff.mp hx).1
  case isFalse =>
    split at h
    · cases h
    · split at h
      · cases h; cases hm
      · cases h

/-- The end of a reset is granted everything but a device parameter (70_reset_and_hazards.md R900 to R903). -/
theorem resetBy_confined {g : Grant} (s : State) (k : ResetKind) (hl : ∀ r, r ∈ g.loads) (hx : g.setsX) :
    Confined g s (s.resetBy k) where
  device := rfl
  pages r _ hr := absurd (hl r) hr
  x _ _ := hx

/-- The fetched instruction's stores and loads are the step's. -/
theorem runInstruction_confined {g : Grant} {s t : State} (h : runInstruction s = .next t)
    (hst : storedAddresses s.instructionAccesses ⊆ g.stores)
    (hl : ∀ i length, s.fetch = .ok (i, length) → instrLoads i ⊆ g.loads) : Confined g s t := by
  unfold runInstruction at h
  split at h
  case h_2 => cases h
  case h_1 i length hf =>
    have hbegin : Quiet s (s.begin length) := ⟨id, rfl⟩
    simp only [State.instructionAccesses, hf, h, storedAddresses_append, storedAddresses_fetches, List.nil_append] at hst
    exact .trans (.quiet hbegin) ((exec_answer i _ t h).mono hst (hl i length hf) False.elim)

/-- An element under way runs with PC behind its opcode, which its stores do not depend on. -/
theorem continueRev_confined {g : Grant} {s t : State} (h : continueRev s = .next t)
    (hst : storedAddresses (revAccesses s t) ⊆ g.stores) : Confined g s t :=
  Confined.trans (t := { s with pc := s.pc + 2 }) (.quiet ⟨id, rfl⟩) (execRev_confined h hst)

theorem continueRevw_confined {g : Grant} {s t : State} (h : continueRevw s = .next t)
    (hst : storedAddresses (revwAccesses s t) ⊆ g.stores) : Confined g s t :=
  Confined.trans (t := { s with pc := s.pc + 2 }) (.quiet ⟨id, rfl⟩) (execRevw_confined h hst)

theorem waitMoment_confined {g : Grant} (s : State) (p : Sample) (hx : p.xirq = true → g.setsX) :
    Confined g s (s.waitMoment p) := by
  unfold State.waitMoment
  split
  case h_1 offset m hrec => exact .toHandler (fun hm => hx (recognised_setsX hrec hm)) s _
  case h_2 => exact .quiet (.ite ⟨id, rfl⟩ (.refl s))

theorem backgroundMoment_quiet (s : State) (p : Sample) : Quiet s (s.backgroundMoment p) := .ite ⟨id, rfl⟩ (.refl s)

/-- Every branch of a step is within the step's grant. -/
theorem stepWith_confined {p : Sample} {s t : State} (h : stepWith p s = .next t) : Confined (stepGrant p s) s t := by
  cases hreset : p.reset with
  | some k =>
    simp only [stepWith, hreset] at h
    cases h
    exact .quiet (holdInReset_quiet s k)
  | none =>
    have hxirq (hx : p.xirq = true) : (stepGrant p s).setsX := ⟨hreset, .inr hx⟩
    have hmask {delayed : Bool} {e : Byte × Masking} (hrec : s.recognised p delayed = some e) :
        e.2.setsX = true → (stepGrant p s).setsX := fun hm => hxirq (recognised_setsX hrec hm)
    cases hrun : s.run with
    | inReset k =>
      simp only [stepWith, hreset, hrun] at h
      cases h
      refine resetBy_confined s k (fun r => ?_) ⟨hreset, .inl ⟨k, hrun⟩⟩
      cases r <;> simp [stepGrant, stepLoads, hrun]
    | waiting | stopped =>
      simp only [stepWith, hreset, hrun] at h
      cases h
      exact waitMoment_confined s p hxirq
    | background =>
      simp only [stepWith, hreset, hrun] at h
      cases h
      exact .quiet (backgroundMoment_quiet s p)
    | running =>
      cases hrec : s.recognised p s.iDelay with
      | some e =>
        simp only [stepWith, hreset, hrun, hrec] at h
        cases h
        exact .enter (hmask hrec) (by simp [stepGrant, stepAccesses, hreset, hrun, hrec]) e.1 s.pc
      | none =>
        simp only [stepWith, hreset, hrun, hrec] at h
        split at h
        case isTrue hswi =>
          cases h
          exact .enter (m := .trap) nofun (by simp [stepGrant, stepAccesses, hreset, hrun, hrec, hswi]) _ s.pc
        case isFalse hswi =>
          refine runInstruction_confined h (by simp [stepGrant, stepAccesses, hreset, hrun, hrec, hswi]) fun i length hf => ?_
          simp [stepGrant, stepLoads, hrun, hf]
    | inRev =>
      cases hrec : s.recognised p false with
      | some e =>
        simp only [stepWith, hreset, hrun, hrec] at h
        cases h
        exact .enter (hmask hrec) (by simp [stepGrant, stepAccesses, hreset, hrun, hrec]) e.1 s.pc
      | none =>
        simp only [stepWith, hreset, hrun, hrec] at h
        refine continueRev_confined h ?_
        simp [stepGrant, stepAccesses, hreset, hrun, hrec, h, elementAccesses]
    | inRevw =>
      cases hrec : s.recognised p false with
      | some e =>
        simp only [stepWith, hreset, hrun, hrec] at h
        cases h
        exact .enter (hmask hrec) (by simp [stepGrant, stepAccesses, hreset, hrun, hrec]) e.1 s.pc
      | none =>
        simp only [stepWith, hreset, hrun, hrec] at h
        refine continueRevw_confined h ?_
        simp [stepGrant, stepAccesses, hreset, hrun, hrec, h, elementAccesses]
    | inWav =>
      cases hrec : s.recognised p false with
      | some e =>
        simp only [stepWith, hreset, hrun, hrec] at h
        cases h
        refine .trans (wavSuspend_confined ?_) (.enter (hmask hrec) ?_ e.1 s.pc)
        · simp [stepGrant, stepAccesses, hreset, hrun, hrec, State.suspendAccesses]
        · simp [stepGrant, stepAccesses, hreset, hrun, hrec, State.suspendAccesses]
      | none =>
        simp only [stepWith, hreset, hrun, hrec] at h
        cases h
        exact .quiet (wavPass_quiet s)

theorem guardedStep_confined {p : Sample} {s t : State} (h : guardedStep p s = .next t) :
    Confined (stepGrant p s) s t := by
  unfold guardedStep at h
  split at h
  case isFalse => exact stepWith_confined h
  case isTrue =>
    cases ho : stepWith p s with
    | next u =>
      rw [ho] at h
      cases h
      exact (stepWith_confined ho).thenQuiet (holdInReset_quiet u .system)
    | fault f => rw [ho] at h; cases h; exact .quiet (holdInReset_quiet s .system)
    | refused r => rw [ho] at h; cases h; exact .quiet (holdInReset_quiet s .system)

/-- The environment's part of a step changes none of this. -/
theorem step_confined {s t : State} (h : step s = .next t) : Confined (stepGrant (nextInput s) s.nextSample) s t :=
  Confined.trans (t := s.nextSample) (.quiet ⟨id, rfl⟩) (guardedStep_confined h)

/-- Settles O12: what grants a step X is the statement's conclusion. -/
theorem onlyResetOrXirqSetsX : Obligations.OnlyResetOrXirqSetsX := fun _ _ h hs ht => (step_confined h).x hs ht

/-- The address that a device maps a register at (10_state.md R37 to R40). -/
def pageRegAddress (dev : Device) : PageReg → Option Word
  | .ppage => dev.ppageAddr
  | .gpage => dev.gpageAddr
  | .direct => dev.directAddr
  | .vb => dev.vbAddr

/-- `registerAt` finds a register at its own address only. -/
theorem pageRegAddress_of_registerAt {dev : Device} {a : Word} {r : PageReg} (h : dev.registerAt a = some r) :
    pageRegAddress dev r = some a := by
  unfold Device.registerAt at h
  split_ifs at h with hp hg hd hv <;> cases h <;> assumption

/-- CALL and RTC alone load a register by themselves, and it is PPAGE (10_state.md R37). -/
theorem mem_instrLoads {i : Instr} {r : PageReg} (h : r ∈ instrLoads i) :
    r = .ppage ∧ (i = .rtc ∨ ∃ target, i = .call target) := by
  unfold instrLoads at h
  split at h
  case h_1 => exact ⟨List.mem_singleton.mp h, .inl rfl⟩
  case h_2 target => exact ⟨List.mem_singleton.mp h, .inr ⟨target, rfl⟩⟩
  case h_3 => cases h

theorem mem_stepLoads {s : State} {r : PageReg} (hrun : ∀ k, s.run ≠ .inReset k) (h : r ∈ stepLoads s) :
    ∃ i length, s.fetch = .ok (i, length) ∧ r ∈ instrLoads i := by
  unfold stepLoads at h
  split at h
  case h_1 k hk => exact absurd hk (hrun k)
  all_goals
    split at h
    case h_1 i length hf => exact ⟨i, length, hf, h⟩
    case h_2 => cases h

/-- The byte that shows GPAGE shows all of its seven bits (10_state.md R38). -/
theorem gpage_of_pageReg {s t : State} (h : t.pageReg .gpage = s.pageReg .gpage) : t.gpage = s.gpage := by
  have hbyte : 0#1 ++ t.gpage = 0#1 ++ s.gpage := h
  rw [BitVec.toNat_eq, BitVec.toNat_append, BitVec.toNat_append] at hbyte
  exact BitVec.eq_of_toNat_eq (by simpa using hbyte)

/-- Settles O13: the step's grant holds the stores of its accesses, and loads for CALL, RTC and the end of a reset alone. -/
theorem pageRegistersChangeOnlyByStores : Obligations.PageRegistersChangeOnlyByStores := by
  intro s t h
  have hc := step_confined h
  refine ⟨hc.device, fun hrun => ?_⟩
  have hunmapped (r : PageReg) (hr : pageRegAddress s.device r = none) (hne : r ≠ .ppage) :
      t.pageReg r = s.pageReg r := by
    refine hc.pages r (fun a _ ha => ?_) fun hl => ?_
    · rw [pageRegAddress_of_registerAt ha] at hr
      cases hr
    · obtain ⟨i, length, -, hi⟩ := mem_stepLoads (s := s.nextSample) hrun hl
      exact hne (mem_instrLoads hi).1
  refine ⟨fun hg => gpage_of_pageReg (hunmapped .gpage hg nofun), fun hd => hunmapped .direct hd nofun, fun hv => hunmapped .vb hv nofun,
    fun r hst hcall => hc.pages r (fun a ha => ?_) fun hl => ?_⟩
  · obtain ⟨c, hmem, hkind, hlogical⟩ := mem_storedAddresses.mp ha
    exact hst c hmem a hkind hlogical
  · obtain ⟨i, length, hf, hi⟩ := mem_stepLoads (s := s.nextSample) hrun hl
    obtain ⟨hr, rfl | ⟨target, rfl⟩⟩ := mem_instrLoads hi
    · exact (hcall hr _ _ hf).1 rfl
    · exact (hcall hr _ _ hf).2 target rfl

end Sys2Proof.Machine
end

section
/-! The canonical form of memory (20_memory.md R60, R62; log 11) through every operation: what stores keeps it by the store, and
all else leaves memory alone. Settles O10. -/

namespace Sys2Proof.Machine

open Sys2Proof Sys2Proof.Safety

/-- A next state that an operation answers has memory in its canonical form. -/
def AnswersForm (o : Host.Outcome State Fault Refusal) : Prop := ∀ t, o = .next t → MemoryForm t

theorem answersForm_next {t : State} (h : MemoryForm t) : AnswersForm (.next t) := by
  intro u hu
  injection hu with hu
  exact hu ▸ h

theorem answersForm_refused (r : Refusal) : AnswersForm (.refused r) := by
  intro u hu
  injection hu

theorem answersForm_ite {c : Prop} [Decidable c] {o p : Host.Outcome State Fault Refusal} (ho : AnswersForm o)
    (hp : AnswersForm p) : AnswersForm (if c then o else p) := by
  split
  · exact ho
  · exact hp

/-- An operation that leaves memory alone. -/
theorem answersForm_of_mem {s t : State} (hm : MemoryForm s) (h : t.mem = s.mem) : AnswersForm (.next t) :=
  answersForm_next (memoryForm_update h hm)

/-! ### Operations that leave memory alone -/

section Registers

variable {get8 : State → Byte} {get16 : State → Word} {set8 : State → Byte → State} {set16 : State → Word → State}

theorem load8_mem (src : Src8) (s : State) (hset : ∀ s v, (set8 s v).mem = s.mem := by exact fun _ _ => rfl) :
    (load8 set8 src s).mem = s.mem := (hset _ _).trans (Src8Update_mem src s)

theorem load16_mem (src : Src16) (s : State) (hset : ∀ s v, (set16 s v).mem = s.mem := by exact fun _ _ => rfl) :
    (load16 set16 src s).mem = s.mem := (hset _ _).trans (Src16Update_mem src s)

theorem globalLoad8_mem (ea : Ea) (s : State) (hset : ∀ s v, (set8 s v).mem = s.mem := by exact fun _ _ => rfl) :
    (globalLoad8 set8 ea s).mem = s.mem := (hset _ _).trans (EaUpdate_mem ea s)

theorem globalLoad16_mem (ea : Ea) (s : State) (hset : ∀ s v, (set16 s v).mem = s.mem := by exact fun _ _ => rfl) :
    (globalLoad16 set16 ea s).mem = s.mem := (hset _ _).trans (EaUpdate_mem ea s)

theorem binary8_mem (op : Byte → Byte → Byte → Byte × Byte) (src : Src8) (s : State)
    (hset : ∀ s v, (set8 s v).mem = s.mem := by exact fun _ _ => rfl) :
    (binary8 get8 set8 op src s).mem = s.mem := (hset _ _).trans (Src8Update_mem src s)

theorem binary16_mem (op : Word → Word → Byte → Word × Byte) (src : Src16) (s : State)
    (hset : ∀ s v, (set16 s v).mem = s.mem := by exact fun _ _ => rfl) :
    (binary16 get16 set16 op src s).mem = s.mem := (hset _ _).trans (Src16Update_mem src s)

theorem compare8_mem (op : Byte → Byte → Byte → Byte × Byte) (src : Src8) (s : State) :
    (compare8 get8 op src s).mem = s.mem := Src8Update_mem src s

theorem compare16_mem (op : Word → Word → Byte → Word × Byte) (src : Src16) (s : State) :
    (compare16 get16 op src s).mem = s.mem := Src16Update_mem src s

theorem select8_mem (choose : Byte → Byte → Byte) (idx : Idx) (s : State) : (select8 choose idx s).mem = s.mem :=
  IdxUpdate_mem idx s

theorem select16_mem (choose : Word → Word → Word) (idx : Idx) (s : State) : (select16 choose idx s).mem = s.mem :=
  IdxUpdate_mem idx s

end Registers

@[simp] theorem branchIf_mem (s : State) (taken : Bool) (target : Word) : (s.branchIf taken target).mem = s.mem := by
  cases taken <;> rfl

@[simp] theorem addCounter_mem (s : State) (c : Ctr) (delta : Int) : (s.addCounter c delta).mem = s.mem := by
  cases c <;> rfl

theorem loopOn_mem (delta : Int) (whenZero : Bool) (ctr : Ctr) (rel : BitVec 9) (s : State) :
    (loopOn delta whenZero ctr rel s).mem = s.mem := (branchIf_mem _ _ _).trans (addCounter_mem s ctr delta)

@[simp] theorem byteLocWrite_mem (l : ByteLoc) (s : State) (v : Byte) : (l.write s v).mem = s.mem := by cases l <;> rfl
@[simp] theorem wordLocWrite_mem (l : WordLoc) (s : State) (v : Word) : (l.write s v).mem = s.mem := by cases l <;> rfl
@[simp] theorem byteLocTouch_mem (l : ByteLoc) (s : State) : (l.touch s).mem = s.mem := by cases l <;> rfl
@[simp] theorem wordLocTouch_mem (l : WordLoc) (s : State) : (l.touch s).mem = s.mem := by cases l <;> rfl

theorem transferRun_mem (c : Transfer) (s : State) : (c.run s).mem = s.mem := by
  cases c <;> simp [Transfer.run]

theorem exchangeRun_mem (c : Exchange) (s : State) : (c.run s).mem = s.mem := by
  cases c <;> simp [Exchange.run]

theorem sexWrite_mem (dst : SexDst) (s : State) (v : Word) : (sexWrite dst s v).mem = s.mem := by cases dst <;> rfl

@[simp] theorem wavPassEnd_mem (s : State) (resume : Word) : (s.wavPassEnd resume).mem = s.mem := by
  unfold State.wavPassEnd
  split <;> rfl

theorem accumulate_mem (s : State) (f p : Byte) : (s.accumulate f p).mem = s.mem := rfl

theorem wavPass_mem (s : State) : (wavPass s).mem = s.mem := (wavPassEnd_mem _ _).trans (accumulate_mem _ _ _)

/-! ### Operations that store -/

section Stores

variable {s : State} (hm : MemoryForm s)

include hm

theorem writeByte_form (a : Word) (v : Byte) : MemoryForm (s.writeByte a v) := s.wf_writeByte a v hm

theorem writeWord_form (a v : Word) : MemoryForm (s.writeWord a v) := s.wf_writeWord a v hm

theorem pushWord_form (v : Word) : MemoryForm (s.pushWord v) := s.wf_pushWord v hm

theorem pushFrame_form (rtn : Word) : MemoryForm (s.pushFrame rtn) := s.wf_pushFrame rtn hm

theorem idxUpdate_form (i : Idx) : MemoryForm (i.update s) := memoryForm_update (IdxUpdate_mem i s) hm

theorem eaUpdate_form (e : Ea) : MemoryForm (e.update s) := memoryForm_update (EaUpdate_mem e s) hm

theorem xeaUpdate_form (e : Xea) : MemoryForm (e.update s) := memoryForm_update (XeaUpdate_mem e s) hm

theorem store8_form (get : State → Byte) (ea : Ea) : MemoryForm (store8 get ea s) :=
  writeByte_form (eaUpdate_form hm ea) _ _

theorem store16_form (get : State → Word) (ea : Ea) : MemoryForm (store16 get ea s) :=
  writeWord_form (eaUpdate_form hm ea) _ _

theorem globalStore8_form (get : State → Byte) (ea : Ea) : MemoryForm (globalStore8 get ea s) :=
  State.wf_globalWriteByte _ _ _ (eaUpdate_form hm ea)

theorem globalStore16_form (get : State → Word) (ea : Ea) : MemoryForm (globalStore16 get ea s) :=
  State.wf_globalWriteWord _ _ _ (eaUpdate_form hm ea)

theorem modify8_form (op : Byte → Byte → Byte × Byte) (ea : Xea) : MemoryForm (modify8 op ea s) :=
  writeByte_form (xeaUpdate_form hm ea) _ _

theorem modify16_form (op : Word → Byte → Word × Byte) (ea : Xea) : MemoryForm (modify16 op ea s) :=
  writeWord_form (xeaUpdate_form hm ea) _ _

theorem selectMemory8_form (choose : Byte → Byte → Byte) (idx : Idx) : MemoryForm (selectMemory8 choose idx s) :=
  writeByte_form (idxUpdate_form hm idx) _ _

theorem selectMemory16_form (choose : Word → Word → Word) (idx : Idx) : MemoryForm (selectMemory16 choose idx s) :=
  writeWord_form (idxUpdate_form hm idx) _ _

theorem callTo_form (addr : Word) (page : Byte) : MemoryForm (callTo addr page s) :=
  State.wf_pushByte _ _ (pushWord_form hm s.pc)

theorem raiseOutput_form (addr : Word) : MemoryForm (raiseOutput s addr) := by
  unfold raiseOutput
  split
  · exact writeByte_form hm addr s.a
  · exact hm

/-- REV stores to a fuzzy output alone (49_fuzzy.md R1003). -/
theorem revElement_form : MemoryForm (revElement s) := by
  unfold revElement
  extract_lets r t addr
  have ht : MemoryForm t := hm
  split_ifs
  · exact ht
  · exact ht
  · exact ht
  · exact raiseOutput_form ht addr
  · exact ht

/-- REVW stores to a fuzzy output alone (49_fuzzy.md R1004). -/
theorem revwElement_form : MemoryForm (revwElement s) := by
  unfold revwElement
  extract_lets r t
  have ht : MemoryForm t := hm
  split_ifs
  · exact ht
  · exact ht
  · exact ht
  · exact ht
  · exact raiseOutput_form ht r
  · exact ht

theorem wavSuspend_form : MemoryForm (wavSuspend s) := by
  unfold wavSuspend
  extract_lets t
  have ht : MemoryForm t := hm
  exact pushWord_form (pushWord_form (pushWord_form ht s.tmp3) s.tmp2) s.tmp1

/-- Of an entry the frame alone is stored (60_exceptions.md R811). -/
theorem enter_form (offset : Byte) (rtn : Word) (m : Masking) : MemoryForm (s.enter offset rtn m) := by
  have hframe := pushFrame_form hm rtn
  unfold State.enter
  generalize s.pushFrame rtn = t at hframe
  exact memoryForm_update (s := t) rfl hframe

/-! ### The instructions that distinguish cases -/

theorem loadAddress_answersForm {set : State → Word → State} (hset : ∀ s v, (set s v).mem = s.mem) (idx : Idx) :
    AnswersForm (loadAddress set idx s) :=
  answersForm_ite (answersForm_of_mem hm ((hset _ _).trans (IdxUpdate_mem idx s))) (answersForm_refused _)

theorem modifyBits_answersForm (f test : Byte → Byte) (ea : Ea) : AnswersForm (modifyBits f test ea s) :=
  answersForm_ite (answersForm_next (writeByte_form (eaUpdate_form hm ea) _ _)) (answersForm_refused _)

theorem execBclr_answersForm (ea : Ea) (mask : Byte) : AnswersForm (execBclr ea mask s) :=
  modifyBits_answersForm hm _ _ ea

theorem execBset_answersForm (ea : Ea) (mask : Byte) : AnswersForm (execBset ea mask s) :=
  modifyBits_answersForm hm _ _ ea

theorem execBtas_answersForm (ea : Ea) (mask : Byte) : AnswersForm (execBtas ea mask s) :=
  modifyBits_answersForm hm _ _ ea

theorem branchOnBits_answersForm (test : Byte → Bool) (ea : Ea) (rel : Byte) :
    AnswersForm (branchOnBits test ea rel s) :=
  answersForm_ite (answersForm_of_mem hm ((branchIf_mem _ _ _).trans (EaUpdate_mem ea s))) (answersForm_refused _)

theorem execBrclr_answersForm (ea : Ea) (mask rel : Byte) : AnswersForm (execBrclr ea mask rel s) :=
  branchOnBits_answersForm hm _ ea rel

theorem execBrset_answersForm (ea : Ea) (mask rel : Byte) : AnswersForm (execBrset ea mask rel s) :=
  branchOnBits_answersForm hm _ ea rel

theorem execCall_answersForm (target : CallTarget) : AnswersForm (execCall target s) := by
  cases target with
  | ext addr page => exact answersForm_next (callTo_form hm addr page)
  | idx i page =>
    exact answersForm_ite (answersForm_next (callTo_form (idxUpdate_form hm i) _ page)) (answersForm_refused _)
  | ind i => exact answersForm_ite (answersForm_refused _) (answersForm_next (callTo_form hm _ _))

theorem execStop_answersForm : AnswersForm (execStop s) :=
  answersForm_ite (answersForm_next hm) (answersForm_next (pushFrame_form hm s.pc))

theorem execRev_answersForm : AnswersForm (execRev s) := by
  have hform := revElement_form hm
  unfold execRev
  generalize revElement s = t at hform
  exact answersForm_ite (answersForm_next hform) (answersForm_next hform)

theorem execRevw_answersForm : AnswersForm (execRevw s) := by
  have hform := revwElement_form hm
  unfold execRevw
  generalize revwElement s = t at hform
  exact answersForm_ite (answersForm_next hform) (answersForm_next hform)

theorem execWavr_answersForm : AnswersForm (execWavr s) := by
  unfold execWavr
  extract_lets t
  have ht : t.mem = s.mem := rfl
  exact answersForm_of_mem hm ((wavPassEnd_mem _ _).trans ((accumulate_mem t _ _).trans ht))

theorem execSex_answersForm (op : SexOp) : AnswersForm (execSex op s) := by
  cases op with
  | byte src dst => exact answersForm_of_mem hm (sexWrite_mem dst s _)
  | _ => exact answersForm_of_mem hm rfl

/-! ### Every instruction -/

/-- The instructions named here store, have a memory operand or distinguish cases; every other one works on registers. -/
theorem exec_answersForm (i : Instr) : AnswersForm (exec i s) := by
  cases i with
  | staa ea | stab ea => exact answersForm_next (store8_form hm _ ea)
  | std ea | sts ea | stx ea | sty ea => exact answersForm_next (store16_form hm _ ea)
  | gstaa ea | gstab ea => exact answersForm_next (globalStore8_form hm _ ea)
  | gstd ea | gsts ea | gstx ea | gsty ea => exact answersForm_next (globalStore16_form hm _ ea)
  | movb src dst =>
    exact answersForm_next (writeByte_form (xeaUpdate_form (memoryForm_update (MoveSrc8Update_mem src s) hm) dst) _ _)
  | movw src dst =>
    exact answersForm_next (writeWord_form (xeaUpdate_form (memoryForm_update (MoveSrc16Update_mem src s) hm) dst) _ _)
  | bclr ea mask => exact execBclr_answersForm hm ea mask
  | bset ea mask => exact execBset_answersForm hm ea mask
  | btas ea mask => exact execBtas_answersForm hm ea mask
  | clr ea => exact answersForm_next (writeByte_form (xeaUpdate_form hm ea) _ _)
  | clrw ea => exact answersForm_next (writeWord_form (xeaUpdate_form hm ea) _ _)
  | com ea | neg ea | dec ea | inc ea | asl ea | lsl ea | asr ea | lsr ea | rol ea | ror ea =>
    exact answersForm_next (modify8_form hm _ ea)
  | comw ea | negw ea | decw ea | incw ea | aslw ea | lslw ea | asrw ea | lsrw ea | rolw ea | rorw ea =>
    exact answersForm_next (modify16_form hm _ ea)
  | emacs addr => exact answersForm_next (writeWord_form (writeWord_form hm _ _) _ _)
  | maxm idx | minm idx => exact answersForm_next (selectMemory8_form hm _ idx)
  | emaxm idx | eminm idx => exact answersForm_next (selectMemory16_form hm _ idx)
  | jsr target => exact answersForm_next (pushWord_form (eaUpdate_form hm target) _)
  | bsr rel => exact answersForm_next (pushWord_form hm _)
  | call target => exact execCall_answersForm hm target
  | psha | pshb | pshc => exact answersForm_next (s.wf_pushByte _ hm)
  | pshcw | pshd | pshx | pshy => exact answersForm_next (pushWord_form hm _)
  | swi => exact answersForm_next (enter_form hm _ _ _)
  | trap tn => exact answersForm_ite (answersForm_next (enter_form hm _ _ _)) (answersForm_refused _)
  | stop => exact execStop_answersForm hm
  | wai => exact answersForm_next (pushFrame_form hm _)
  | mem => exact answersForm_next (writeByte_form hm _ _)
  | rev => exact execRev_answersForm hm
  | revw => exact execRevw_answersForm hm
  | ldaa src | ldab src => exact answersForm_of_mem hm (load8_mem src s)
  | ldd src | lds src | ldx src | ldy src => exact answersForm_of_mem hm (load16_mem src s)
  | gldaa ea | gldab ea => exact answersForm_of_mem hm (globalLoad8_mem ea s)
  | gldd ea | glds ea | gldx ea | gldy ea => exact answersForm_of_mem hm (globalLoad16_mem ea s)
  | leas idx => exact loadAddress_answersForm hm State.setSp_mem idx
  | leax idx => exact loadAddress_answersForm hm State.setX_mem idx
  | leay idx => exact loadAddress_answersForm hm State.setY_mem idx
  | adca src | adcb src | adda src | addb src | sbca src | sbcb src | suba src | subb src | anda src | andb src | eora src
  | eorb src | oraa src | orab src => exact answersForm_of_mem hm (binary8_mem _ src s)
  | addd src | addx src | addy src | aded src | adex src | adey src | subd src | subx src | suby src | sbed src | sbex src
  | sbey src | andx src | andy src | eorx src | eory src | orx src | ory src =>
    exact answersForm_of_mem hm (binary16_mem _ src s)
  | cmpa src | cmpb src | bita src | bitb src => exact answersForm_of_mem hm (compare8_mem _ src s)
  | cpd src | cps src | cpx src | cpy src | cped src | cpes src | cpex src | cpey src | bitx src | bity src =>
    exact answersForm_of_mem hm (compare16_mem _ src s)
  | tst ea | tstw ea => exact answersForm_of_mem hm (XeaUpdate_mem ea s)
  | maxa idx | mina idx => exact answersForm_of_mem hm (select8_mem _ idx s)
  | emaxd idx | emind idx => exact answersForm_of_mem hm (select16_mem _ idx s)
  | tbl idx | etbl idx => exact answersForm_ite (answersForm_of_mem hm (IdxUpdate_mem idx s)) (answersForm_refused _)
  | ediv | edivs | idivs =>
    exact answersForm_ite (answersForm_of_mem hm rfl) <| answersForm_ite (answersForm_of_mem hm rfl) <|
      answersForm_of_mem hm rfl
  | idiv | fdiv => exact answersForm_ite (answersForm_of_mem hm rfl) (answersForm_of_mem hm rfl)
  | bcc | bcs | beq | bge | bgt | bhi | bhs | ble | blo | bls | blt | bmi | bne | bpl | bra | brn | bvc | bvs | lbcc
  | lbcs | lbeq | lbge | lbgt | lbhi | lbhs | lble | lblo | lbls | lblt | lbmi | lbne | lbpl | lbra | lbrn | lbvc
  | lbvs => exact answersForm_of_mem hm (branchIf_mem ..)
  | brclr ea mask rel => exact execBrclr_answersForm hm ea mask rel
  | brset ea mask rel => exact execBrset_answersForm hm ea mask rel
  | dbeq ctr rel | dbne ctr rel | ibeq ctr rel | ibne ctr rel | tbeq ctr rel | tbne ctr rel =>
    exact answersForm_of_mem hm (loopOn_mem _ _ ctr rel s)
  | jmp target => exact answersForm_of_mem hm (XeaUpdate_mem target s)
  | bgnd => exact answersForm_of_mem hm ((apply_ite State.mem _ _ _).trans (ite_self _))
  | wavr => exact execWavr_answersForm hm
  | tfr extended src dst => exact answersForm_of_mem hm (transferRun_mem _ s)
  | exg extended src dst => exact answersForm_of_mem hm (exchangeRun_mem _ s)
  | sex op => exact execSex_answersForm hm op
  | _ => exact answersForm_of_mem hm rfl

/-! ### Every step -/

theorem runInstruction_answersForm : AnswersForm (runInstruction s) := by
  unfold runInstruction
  split
  case h_1 i length _ => exact exec_answersForm (s := s.begin length) hm i
  case h_2 r _ => exact answersForm_refused r

theorem waitMoment_form (p : Sample) : MemoryForm (s.waitMoment p) := by
  unfold State.waitMoment
  split
  · exact hm
  · split
    · exact hm
    · exact hm

theorem backgroundMoment_form (p : Sample) : MemoryForm (s.backgroundMoment p) := by
  unfold State.backgroundMoment
  split
  · exact hm
  · exact hm

/-- Every branch of a step keeps the form; a held reset makes it (70_reset_and_hazards.md R902). -/
theorem stepWith_answersForm (p : Sample) : AnswersForm (stepWith p s) := by
  unfold stepWith
  cases p.reset with
  | some k => exact answersForm_next (wf_holdInReset s k)
  | none =>
    cases s.run with
    | inReset k => exact answersForm_of_mem (t := s.resetBy k) hm rfl
    | waiting | stopped => exact answersForm_next (waitMoment_form hm p)
    | background => exact answersForm_next (backgroundMoment_form hm p)
    | running =>
      cases s.recognised p s.iDelay with
      | some e => exact answersForm_next (enter_form hm _ _ _)
      | none => exact answersForm_ite (answersForm_next (enter_form hm _ _ _)) (runInstruction_answersForm hm)
    | inRev =>
      cases s.recognised p false with
      | some e => exact answersForm_next (enter_form hm _ _ _)
      | none => exact execRev_answersForm (s := { s with pc := s.pc + 2 }) hm
    | inRevw =>
      cases s.recognised p false with
      | some e => exact answersForm_next (enter_form hm _ _ _)
      | none => exact execRevw_answersForm (s := { s with pc := s.pc + 2 }) hm
    | inWav =>
      cases s.recognised p false with
      | some e => exact answersForm_next (enter_form (wavSuspend_form hm) _ _ _)
      | none => exact answersForm_of_mem hm (wavPass_mem s)

/-- An illegal access ends in a held reset, which makes the form whatever was stored (60_exceptions.md R851). -/
theorem guardedStep_answersForm (p : Sample) : AnswersForm (guardedStep p s) := by
  refine answersForm_ite ?_ (stepWith_answersForm hm p)
  cases stepWith p s with
  | next t => exact answersForm_next (wf_holdInReset t .system)
  | fault f => exact answersForm_next (wf_holdInReset s .system)
  | refused r => exact answersForm_next (wf_holdInReset s .system)

end Stores

/-- Settles O10: the environment's part of a step leaves memory alone, the rest is `guardedStep_answersForm`. -/
theorem stepKeepsMemoryForm : Obligations.StepKeepsMemoryForm := fun s t hm h =>
  guardedStep_answersForm (s := s.nextSample) hm _ t h

end Sys2Proof.Machine
end

section
/-! What a step of a fetched instruction is (20_memory.md R74, R77, 60_exceptions.md R810). Settles O8. -/

namespace Sys2Proof.Machine

open Sys2Proof Sys2Proof.Safety

/-- A fetch of bytes that decode, none of them stale. -/
theorem fetch_of_decode {s : State} {i : Instr} {rest : List Byte} (hd : decode (s.bytesAt s.pc 8) = .ok (i, rest))
    (hs : s.staleAt s.pc (8 - rest.length) = false) : s.fetch = .ok (i, 8 - rest.length) := by
  simp [State.fetch, hd, hs]

/-- The environment's part of a step leaves the list of stale addresses alone. -/
theorem staleAt_nextSample (s : State) (a : Word) (n : Nat) : s.nextSample.staleAt a n = s.staleAt a n := by
  induction n generalizing a with
  | zero => rfl
  | succ n ih => simp [State.staleAt, ih]

/-- Running with nothing recognised, a step of the sample is the instruction at PC (60_exceptions.md R810). -/
theorem stepWith_nothingRecognised {s : State} (hrun : s.run = .running) (hn : NothingRecognised s s.iDelay) :
    stepWith (nextInput s) s.nextSample = runInstruction s.nextSample := by
  obtain ⟨hreset, hswi, hq⟩ := hn
  have hrec : s.nextSample.recognised (nextInput s) s.nextSample.iDelay = none := recognised_none s s.iDelay hq
  have hrun' : s.nextSample.run = .running := hrun
  simp only [stepWith, hreset, hrun', hrec, hswi, Bool.false_eq_true, if_false]

/-- Settles O8: the step is that of its sample, which is the instruction that the fetch finds. -/
theorem stepRunsDecoded : Obligations.StepRunsDecoded := by
  intro s i rest hrun hn hp hd hs
  have hfetch : s.nextSample.fetch = .ok (i, 8 - rest.length) :=
    fetch_of_decode hd ((staleAt_nextSample s s.pc _).trans hs)
  rw [step_permitted s hp, stepWith_nothingRecognised hrun hn, runInstruction, hfetch]
  rfl

end Sys2Proof.Machine
end

section
/-! Loads after stores in RAM and through the window of expanded memory (20_memory.md R62, R63, R69). Settles O14. -/

namespace Sys2Proof.Machine

open Sys2Proof Sys2Proof.Safety

/-- A byte of an address where no register of another module is mapped is a byte of memory or of the device. -/
theorem readByte_unmapped {s : State} {a : Word} (h : Unmapped s a) : s.readByte a = s.readKey (s.logicalKey a) := by
  unfold Unmapped at h
  simp only [State.readByte, h]

section Ram

variable {s : State} {a b : Word}

theorem isRam_writeByte (ha : IsRam s a) (hb : IsRam s b) (v : Byte) : IsRam (s.writeByte a v) b :=
  ((Written.refl s).byte a v ha).ram b hb

theorem readByte_writeByte_same (hm : MemoryForm s) (ha : IsRam s a) (v : Byte) : (s.writeByte a v).readByte a = v := by
  rw [readByte_ram _ _ (isRam_writeByte ha ha v), ((Written.refl s).byte a v ha).key, writeByte_ram_mem s a v ha]
  exact Memory.read_write_self s.mem 0 _ v hm

theorem readByte_writeByte_ne (ha : IsRam s a) (hb : IsRam s b) (hne : b ≠ a) (v : Byte) :
    (s.writeByte a v).readByte b = s.readByte b := by
  have hkey : s.logicalKey b ≠ s.logicalKey a := fun h => hne (logicalKey_injective s b a h)
  rw [readByte_ram _ _ (isRam_writeByte ha hb v), ((Written.refl s).byte a v ha).key, writeByte_ram_mem s a v ha,
    Memory.read_write_ne _ _ _ _ hkey, readByte_ram s b hb]

/-- Big-endian: the high byte at the lower address, which the store of the low byte leaves alone (20_memory.md R63). -/
theorem readByte_writeWord (hm : MemoryForm s) (ha : IsRam s a) (ha' : IsRam s (a + 1)) (v : Word) :
    (s.writeWord a v).readByte a = hiByte v ∧ (s.writeWord a v).readByte (a + 1) = loByte v := by
  have hne : a ≠ a + 1 := by bv_omega
  have hlow := isRam_writeByte ha ha' (hiByte v)
  constructor
  · exact (readByte_writeByte_ne hlow (isRam_writeByte ha ha _) hne _).trans (readByte_writeByte_same hm ha _)
  · exact readByte_writeByte_same (writeByte_form hm a _) hlow _

end Ram

/-! ### The window (20_memory.md R69) -/

theorem inWindow_of_range {a : Word} (h : 0x8000 ≤ a.toNat) (h' : a.toNat ≤ 0xBFFF) : inWindow a = true := by
  rw [inWindow, beq_iff_eq, BitVec.toNat_eq, BitVec.extractLsb'_toNat, Nat.shiftRight_eq_div_pow]
  show a.toNat / 16384 % 4 = 2
  omega

theorem logicalKey_inWindow {s : State} {a : Word} (he : s.device.expanded = true) (hw : inWindow a = true) :
    s.logicalKey a = 0x10000 + s.ppage.toNat * 0x4000 + a.toNat % 0x4000 := by
  rw [State.logicalKey, he, hw]
  exact if_pos rfl

/-- Two pages show different bytes at an address of the window. -/
theorem logicalKey_setPpage_ne {s : State} {a : Word} {p : Byte} (he : s.device.expanded = true)
    (hw : inWindow a = true) (hp : p ≠ s.ppage) : (s.setPpage p).logicalKey a ≠ s.logicalKey a := by
  have hne : p.toNat ≠ s.ppage.toNat := fun h => hp (BitVec.eq_of_toNat_eq h)
  rw [logicalKey_inWindow (s := s.setPpage p) he hw, logicalKey_inWindow he hw, State.setPpage_ppage]
  omega

/-- The page that PPAGE named shows the byte stored. -/
theorem readByte_writeByte_page_same {s : State} {a : Word} (hm : MemoryForm s) (ha : IsRam s a) (v : Byte) :
    ((s.writeByte a v).setPpage s.ppage).readByte a = v := by
  obtain ⟨hp, -⟩ := writeByte_ram_page s a v ha
  rw [State.readByte_congr (s.writeByte a v) ((s.writeByte a v).setPpage s.ppage) a rfl rfl hp.symm rfl rfl rfl rfl]
  exact readByte_writeByte_same hm ha v

/-- Every other page shows at the address what it showed before. -/
theorem readByte_writeByte_page_ne {s : State} {a : Word} {p : Byte} (ha : IsRam s a) (he : s.device.expanded = true)
    (hw : inWindow a = true) (hp : p ≠ s.ppage) (v : Byte) :
    ((s.writeByte a v).setPpage p).readByte a = (s.setPpage p).readByte a := by
  have hd : (s.writeByte a v).device = s.device := by simp
  have hf : (s.writeByte a v).free = s.free := by simp
  have hu : Unmapped (s.setPpage p) a := ha.1
  have hu' : Unmapped ((s.writeByte a v).setPpage p) a := by rw [Unmapped, State.setPpage_device, hd]; exact hu
  rw [readByte_unmapped hu, readByte_unmapped hu',
    State.logicalKey_congr (s.setPpage p) ((s.writeByte a v).setPpage p) a hd rfl]
  refine State.readKey_congr (s.setPpage p) _ _ hd hf ?_
  rw [State.setPpage_mem, State.setPpage_mem, writeByte_ram_mem s a v ha]
  exact Memory.read_write_ne _ _ _ _ (logicalKey_setPpage_ne he hw hp)

/-- Settles O14: words are two bytes by definition, RAM reads back, pages are apart. -/
theorem memoryAccesses : Obligations.MemoryAccesses := by
  refine ⟨fun _ _ => rfl, fun _ _ v hm ha => readByte_writeByte_same hm ha v,
    fun _ _ v hm ha ha' => readByte_writeWord hm ha ha' v, fun s a v p hm ha he hlo hhi => ?_⟩
  split
  case isTrue h => rw [h]; exact readByte_writeByte_page_same hm ha v
  case isFalse h => exact readByte_writeByte_page_ne ha he (inWindow_of_range hlo hhi) h v

end Sys2Proof.Machine
end

section
/-! The effective addresses as numbers (20_memory.md R70, 31_indexed_postbyte.md R143 to R151). Settles O15. -/

namespace Sys2Proof.Machine

open Sys2Proof Sys2Proof.Safety

/-- A sum of words is the sum of the one's number and the other's signed number, modulo 65536. -/
theorem toNat_add_toInt (b m : Word) : ((b + m).toNat : Int) = ((b.toNat : Int) + m.toInt) % 65536 := by
  rw [BitVec.toNat_add, BitVec.toInt_eq_toNat_cond]
  split <;> omega

theorem toNat_add_signExtend {w : Nat} (b : Word) (n : BitVec w) (hw : w ≤ 16) :
    ((b + n.signExtend 16).toNat : Int) = ((b.toNat : Int) + n.toInt) % 65536 := by
  rw [toNat_add_toInt, BitVec.toInt_signExtend_of_le hw]

theorem toNat_add_zext8 (b : Word) (v : Byte) : (b + zext8 v).toNat = (b.toNat + v.toNat) % 65536 := by
  have hv : (zext8 v).toNat = v.toNat := by
    rw [zext8, BitVec.toNat_setWidth]
    omega
  rw [BitVec.toNat_add, hv]

theorem toNat_wordOf (hi lo : Byte) : (wordOf hi lo).toNat = hi.toNat * 256 + lo.toNat := by
  rw [wordOf, BitVec.toNat_append, ← Nat.shiftLeft_add_eq_or_of_lt lo.isLt, Nat.shiftLeft_eq]

/-- The adjustment of `nnnn` (31_indexed_postbyte.md R147), for each of its sixteen values. -/
theorem autoAdjust_toInt (n : BitVec 4) :
    (autoAdjust n).toInt = if n.toNat < 8 then (n.toNat : Int) + 1 else (n.toNat : Int) - 16 := by
  revert n
  decide

theorem autoReg_setAutoReg (s : State) (r : AutoReg) (v : Word) : (s.setAutoReg r v).autoReg r = v := by cases r <;> rfl

/-- Auto modify steps its own register (31_indexed_postbyte.md R147). -/
theorem autoReg_update (s : State) (r : AutoReg) (post : Bool) (n : BitVec 4) :
    ((Idx.auto r post n).update s).autoReg r = s.autoReg r + autoAdjust n := autoReg_setAutoReg s r _

/-- Every class but auto modify leaves the state alone (31_indexed_postbyte.md R147). -/
theorem idxUpdate_of_not_auto (s : State) (i : Idx) (h : ∀ r post n, i ≠ .auto r post n) : i.update s = s := by
  cases i with
  | auto r post n => exact absurd rfl (h r post n)
  | _ => rfl

/-- Settles O15: each class is a sum with its base, said in numbers. -/
theorem effectiveAddresses : Obligations.EffectiveAddresses := by
  refine ⟨fun _ _ _ => ⟨rfl, rfl⟩, fun s pcRef r => ?classes, fun s pcRef r post n => ?auto, idxUpdate_of_not_auto⟩
  case classes =>
    intro b
    have hb : b = s.indexReg pcRef r := by cases r <;> rfl
    clear_value b
    subst hb
    refine ⟨fun n => toNat_add_signExtend _ n (by decide), fun n => toNat_add_signExtend _ n (by decide),
      fun n => BitVec.toNat_add _ n, toNat_add_zext8 _ s.a, toNat_add_zext8 _ s.b, ?_, fun _ => rfl, rfl⟩
    rw [Nat.add_assoc, ← toNat_wordOf]
    exact BitVec.toNat_add _ s.d
  case auto =>
    have hnew := autoReg_update s r post n
    refine ⟨?_, ?_, ?_⟩
    · show (((Idx.auto r post n).update s).autoReg r).toNat = (_ : Int)
      rw [hnew, toNat_add_toInt, autoAdjust_toInt]
    · show (Idx.auto r post n).addr s pcRef = if post then _ else ((Idx.auto r post n).update s).autoReg r
      rw [hnew]
      rfl
    · cases r with
      | x => exact ⟨writer_x.same s _, fun _ _ => rfl⟩
      | y => exact ⟨writer_y.same s _, fun _ _ => rfl⟩
      | sp => exact ⟨writer_sp.same s _, fun _ _ => rfl⟩

end Sys2Proof.Machine
end

section
/-! Pushes and pulls of registers (48_stack_ccr_system.md R760 to R769, R772 to R774). Settles O46. -/

namespace Sys2Proof.Machine

open Sys2Proof Sys2Proof.Safety

/-- The frame of a pull: the register it writes and SP. -/
theorem keeps_pull {α : Type} {get : State → α} {set : State → α → State} {fields : List Field}
    (w : Writer get set fields) (s : State) (n : Word) (v : α) : Keeps (fields ++ [.sp]) s (set (s.drop n) v) :=
  keeps_trans (drop_keeps s n) ⟨w.same _ v, fun k _ => by rw [w.mem]⟩

/-- Settles O46: a push is `Push8` or `Push16` of its register, a pull the register's write after SP is raised. -/
theorem pushesAndPulls : Obligations.PushesAndPulls := by
  refine ⟨fun s hm => ⟨_, rfl, pushByte_does s s.a hm⟩, fun s hm => ⟨_, rfl, pushByte_does s s.b hm⟩,
    fun s hm => ⟨_, rfl, pushByte_does s s.ccr hm⟩, fun s hm => ⟨_, rfl, pushWord_does s s.ccrw hm⟩,
    fun s hm => ⟨_, rfl, pushWord_does s s.d hm⟩, fun s hm => ⟨_, rfl, pushWord_does s s.x hm⟩,
    fun s hm => ⟨_, rfl, pushWord_does s s.y hm⟩, fun s => ?_⟩
  exact ⟨⟨_, rfl, rfl, rfl, keeps_pull writer_a s 1 _⟩, ⟨_, rfl, rfl, rfl, keeps_pull writer_b s 1 _⟩,
    ⟨_, rfl, hiByte_wordOf _ _, loByte_wordOf _ _, rfl, keeps_pull writer_d s 2 _⟩,
    ⟨_, rfl, rfl, rfl, keeps_pull writer_x s 2 _⟩, ⟨_, rfl, rfl, rfl, keeps_pull writer_y s 2 _⟩⟩

end Sys2Proof.Machine
end

section
/-! The round trip of the encoder and the decoder (30_encoding.md R100, R109, R111): the bytes after an opcode are read by the
entry of the opcode's page, and each entry reads back the operand that the encoder writes. Settles O2 and O1. -/

namespace Sys2Proof

open Sys2Proof.Machine

/-! ### Reading an operand back -/

@[simp] theorem andThen_wordBytes {β : Type} (f : Word → Parser β) (w : Word) (rest : List Byte) :
    andThen word f (wordBytes w ++ rest) = f w rest := andThen_ok (word_bytes w rest)

@[simp] theorem andThen_idxBytes {β : Type} (f : Idx → Parser β) (i : Idx) (rest : List Byte) :
    andThen indexed f (i.bytes ++ rest) = f i rest := andThen_ok (indexed_bytes i rest)

/-- The reader of what follows an opcode, on page 1 (`page = []`) or behind the prebyte (30_encoding.md R101). -/
def afterOpcode (page : List Byte) (op : Byte) : Parser Instr := fun bs => decode (page ++ op :: bs)

section Forms

variable {page : List Byte} {op imm dir ext idx : Byte}

theorem decode_alone {i : Instr} (h : afterOpcode page op = answer i) (rest : List Byte) :
    decode (page ++ [op] ++ rest) = .ok (i, rest) := by
  rw [List.append_assoc]; exact congrFun h rest

theorem decode_byte {f : Byte → Instr} (h : afterOpcode page op = pByte f) (b : Byte) (rest : List Byte) :
    decode (page ++ [op, b] ++ rest) = .ok (f b, rest) := by
  rw [List.append_assoc]; exact congrFun h (b :: rest)

theorem decode_operands (operands rest : List Byte) :
    decode (page ++ [op] ++ operands ++ rest) = afterOpcode page op (operands ++ rest) := by
  simp [afterOpcode]

theorem decode_word {f : Word → Instr} (h : afterOpcode page op = pExt f) (w : Word) (rest : List Byte) :
    decode (page ++ [op] ++ wordBytes w ++ rest) = .ok (f w, rest) := by
  rw [decode_operands, h]; exact andThen_wordBytes _ w rest

theorem decode_idx {f : Idx → Instr} (h : afterOpcode page op = anyIdx f) (i : Idx) (rest : List Byte) :
    decode (page ++ [op] ++ i.bytes ++ rest) = .ok (f i, rest) := by
  rw [decode_operands, h]; exact andThen_idxBytes _ i rest

theorem decode_directIdx {f : Idx → Instr} (h : afterOpcode page op = directIdx f) {i : Idx} (hi : i.isDirect = true)
    (rest : List Byte) : decode (page ++ [op] ++ i.bytes ++ rest) = .ok (f i, rest) := by
  rw [decode_operands, h]; simp [directIdx, hi]

theorem decode_shortIdx {f : Idx → Instr} (h : afterOpcode page op = shortIdx f) {i : Idx} (hi : i.noExtension = true)
    (rest : List Byte) : decode (page ++ [op] ++ i.bytes ++ rest) = .ok (f i, rest) := by
  rw [decode_operands, h]; simp [shortIdx, hi]

/-- The operand bytes of a memory operand, behind the opcode of its form. -/
theorem decode_encEa_append (e : Ea) (more : List Byte) :
    decode (encEa page dir ext idx e ++ more) = match e with
      | .dir dd => afterOpcode page dir (dd :: more)
      | .ext w => afterOpcode page ext (wordBytes w ++ more)
      | .idx i => afterOpcode page idx (i.bytes ++ more) := by
  cases e <;> simp [encEa, afterOpcode]

theorem decode_encEa {f : Ea → Instr} (hd : afterOpcode page dir = eaDir f) (he : afterOpcode page ext = eaExt f)
    (hi : afterOpcode page idx = eaIdx f) (e : Ea) (rest : List Byte) :
    decode (encEa page dir ext idx e ++ rest) = .ok (f e, rest) := by
  rw [decode_encEa_append]
  cases e with
  | dir dd => simp [hd, eaDir]
  | ext w => simp [he, eaExt]
  | idx i => simp [hi, eaIdx]

theorem decode_encXea {f : Xea → Instr} (he : afterOpcode page ext = xeaExt f) (hi : afterOpcode page idx = xeaIdx f)
    (e : Xea) (rest : List Byte) : decode (encXea page ext idx e ++ rest) = .ok (f e, rest) := by
  cases e with
  | ext w => exact decode_word he w rest
  | idx i => exact decode_idx hi i rest

theorem decode_encSrc8 {f : Src8 → Instr} (hm : afterOpcode page imm = src8Imm f) (hd : afterOpcode page dir = src8Dir f)
    (he : afterOpcode page ext = src8Ext f) (hi : afterOpcode page idx = src8Idx f) (o : Src8) (rest : List Byte) :
    decode (encSrc8 page imm dir ext idx o ++ rest) = .ok (f o, rest) := by
  cases o with
  | imm v => exact decode_byte hm v rest
  | mem e => exact decode_encEa (f := fun e => f (.mem e)) hd he hi e rest

theorem decode_encSrc16 {f : Src16 → Instr} (hm : afterOpcode page imm = src16Imm f)
    (hd : afterOpcode page dir = src16Dir f) (he : afterOpcode page ext = src16Ext f)
    (hi : afterOpcode page idx = src16Idx f) (o : Src16) (rest : List Byte) :
    decode (encSrc16 page imm dir ext idx o ++ rest) = .ok (f o, rest) := by
  cases o with
  | imm v => exact decode_word hm v rest
  | mem e => exact decode_encEa (f := fun e => f (.mem e)) hd he hi e rest

theorem decode_bits {f : Ea → Byte → Instr} (hd : afterOpcode page dir = bitDir f) (he : afterOpcode page ext = bitExt f)
    (hi : afterOpcode page idx = bitIdx f) {e : Ea} (hf : e.isDirect = true) (mm : Byte) (rest : List Byte) :
    decode (encEa page dir ext idx e ++ [mm] ++ rest) = .ok (f e mm, rest) := by
  rw [List.append_assoc, decode_encEa_append]
  cases e with
  | dir dd => simp [hd, bitDir]
  | ext w => simp [he, bitExt]
  | idx i => simp [hi, bitIdx, show i.isDirect = true from hf]

theorem decode_bitsBranch {f : Ea → Byte → Byte → Instr} (hd : afterOpcode page dir = bitRelDir f)
    (he : afterOpcode page ext = bitRelExt f) (hi : afterOpcode page idx = bitRelIdx f) {e : Ea} (hf : e.isDirect = true)
    (mm rr : Byte) (rest : List Byte) :
    decode (encEa page dir ext idx e ++ [mm, rr] ++ rest) = .ok (f e mm rr, rest) := by
  rw [List.append_assoc, decode_encEa_append]
  cases e with
  | dir dd => simp [hd, bitRelDir]
  | ext w => simp [he, bitRelExt]
  | idx i => simp [hi, bitRelIdx, show i.isDirect = true from hf]

end Forms

/-! ### The operands with a form of their own -/

/-- The fields of a loop postbyte (47_branch_loop_jump.md R741). -/
theorem loopPostbyte_fields (op code : BitVec 3) (k : BitVec 1) :
    (op ++ k ++ 0#1 ++ code : Byte).extractLsb' 5 3 = op ∧ (op ++ k ++ 0#1 ++ code : Byte).extractLsb' 4 1 = k ∧
    (op ++ k ++ 0#1 ++ code : Byte).extractLsb' 0 3 = code := by
  revert op code k; decide

theorem decode_encLoop {op : BitVec 3} {f : Ctr → BitVec 9 → Instr} (h : ∀ c rel, loopOperation op c rel = some (f c rel))
    (c : Ctr) (rel : BitVec 9) (rest : List Byte) : decode (encLoop op c rel ++ rest) = .ok (f c rel, rest) := by
  obtain ⟨hop, hk, hcode⟩ := loopPostbyte_fields op c.bits (rel.extractLsb' 8 1)
  show loopPrimitive ((op ++ rel.extractLsb' 8 1 ++ 0#1 ++ c.bits) :: rel.extractLsb' 0 8 :: rest) = _
  simp only [loopPrimitive, andThen_byte, hop, hk, hcode, Ctr.ofBits_bits, split9, h, answer_apply]

/-- The fields of the eb postbyte (41_transfer_exchange.md R300, R301). -/
theorem encPair_fields (exchange : BitVec 1) (extended : Bool) (src dst : RegCode) :
    (encPair exchange extended src dst).getLsbD 7 = exchange.getLsbD 0 ∧
    (encPair exchange extended src dst).getLsbD 3 = extended ∧
    RegCode.ofBits ((encPair exchange extended src dst).extractLsb' 4 3) = src ∧
    RegCode.ofBits ((encPair exchange extended src dst).extractLsb' 0 3) = dst := by
  have hfields : ∀ (x : BitVec 1) (e : Bool) (p q : BitVec 3),
      (x ++ p ++ BitVec.ofBool e ++ q : Byte).getLsbD 7 = x.getLsbD 0 ∧
      (x ++ p ++ BitVec.ofBool e ++ q : Byte).getLsbD 3 = e ∧ (x ++ p ++ BitVec.ofBool e ++ q : Byte).extractLsb' 4 3 = p ∧
      (x ++ p ++ BitVec.ofBool e ++ q : Byte).extractLsb' 0 3 = q := by decide
  obtain ⟨hx, he, hs, hd⟩ := hfields exchange extended src.bits dst.bits
  exact ⟨hx, he, (congrArg _ hs).trans src.ofBits_bits, (congrArg _ hd).trans dst.ofBits_bits⟩

theorem decode_tfr (extended : Bool) (src dst : RegCode) (rest : List Byte) :
    decode ([0xB7, encPair 0#1 extended src dst] ++ rest) = .ok (.tfr extended src dst, rest) := by
  obtain ⟨hx, he, hs, hd⟩ := encPair_fields 0#1 extended src dst
  show registerPair (encPair 0#1 extended src dst :: rest) = _
  simp only [registerPair, andThen_byte, answer_apply, hx, he, hs, hd]
  rfl

theorem decode_exg (extended : Bool) (src dst : RegCode) (rest : List Byte) :
    decode ([0xB7, encPair 1#1 extended src dst] ++ rest) = .ok (.exg extended src dst, rest) := by
  obtain ⟨hx, he, hs, hd⟩ := encPair_fields 1#1 extended src dst
  show registerPair (encPair 1#1 extended src dst :: rest) = _
  simp only [registerPair, andThen_byte, answer_apply, hx, he, hs, hd]
  rfl

/-- SEX has the postbyte of its transfer (41_transfer_exchange.md R306). -/
theorem decode_sex (op : SexOp) (rest : List Byte) : decode ([0xB7, op.postbyte] ++ rest) = .ok (op.transfer, rest) := by
  cases op with
  | byte src dst => exact decode_tfr false src.code dst.code rest
  | aToD => exact decode_tfr true .a .d rest
  | bToD => exact decode_tfr true .b .d rest
  | dToX => exact decode_tfr true .d .x rest
  | dToY => exact decode_tfr true .d .y rest

/-- The page byte stands behind a direct operand alone (47_branch_loop_jump.md R752). -/
theorem decode_encCall {t : CallTarget} (h : t.wf = true) (rest : List Byte) :
    decode (encCall t ++ rest) = .ok (.call t, rest) := by
  cases t with
  | ext w pg =>
    show callExt (wordBytes w ++ [pg] ++ rest) = _
    simp [callExt]
  | idx i pg =>
    show callIdx (i.bytes ++ [pg] ++ rest) = _
    simp [callIdx, show i.isDirect = true from h]
  | ind i =>
    have hi : i.isDirect = false := by simpa [CallTarget.wf] using h
    show callIdx (i.bytes ++ rest) = _
    simp [callIdx, hi]

section Moves

variable (f : Xea → Xea → Instr) (v s d : Word) (i j : Idx) (rest : List Byte)

theorem moveExtExt_bytes : moveExtExt f (wordBytes s ++ wordBytes d ++ rest) = .ok (f (.ext s) (.ext d), rest) := by
  simp [moveExtExt]

theorem moveExtIdx_bytes : moveExtIdx f (j.bytes ++ wordBytes s ++ rest) = .ok (f (.ext s) (.idx j), rest) := by
  simp [moveExtIdx]

theorem moveIdxExt_bytes : moveIdxExt f (i.bytes ++ wordBytes d ++ rest) = .ok (f (.idx i) (.ext d), rest) := by
  simp [moveIdxExt]

theorem moveIdxIdx_bytes : moveIdxIdx f (i.bytes ++ j.bytes ++ rest) = .ok (f (.idx i) (.idx j), rest) := by
  simp [moveIdxIdx]

theorem move8ImmExt_bytes (b : Byte) : move8ImmExt (b :: (wordBytes d ++ rest)) = .ok (.movb (.imm b) (.ext d), rest) := by
  simp [move8ImmExt]

theorem move8ImmIdx_bytes (b : Byte) : move8ImmIdx (j.bytes ++ [b] ++ rest) = .ok (.movb (.imm b) (.idx j), rest) := by
  simp [move8ImmIdx]

theorem move16ImmExt_bytes : move16ImmExt (wordBytes v ++ wordBytes d ++ rest) = .ok (.movw (.imm v) (.ext d), rest) := by
  simp [move16ImmExt]

theorem move16ImmIdx_bytes : move16ImmIdx (j.bytes ++ wordBytes v ++ rest) = .ok (.movw (.imm v) (.idx j), rest) := by
  simp [move16ImmIdx]

end Moves

/-- Each pair of forms of MOVB has its own opcode and order of operands (40_load_store_move.md R228). -/
theorem decode_encMove8 (src : MoveSrc8) (dst : Xea) (rest : List Byte) :
    decode (encMove8 src dst ++ rest) = .ok (.movb src dst, rest) := by
  match src, dst with
  | .imm v, .ext d => exact move8ImmExt_bytes d rest v
  | .imm v, .idx j => exact move8ImmIdx_bytes j rest v
  | .mem (.ext s), .ext d => exact moveExtExt_bytes (fun s d => .movb (.mem s) d) s d rest
  | .mem (.ext s), .idx j => exact moveExtIdx_bytes (fun s d => .movb (.mem s) d) s j rest
  | .mem (.idx i), .ext d => exact moveIdxExt_bytes (fun s d => .movb (.mem s) d) d i rest
  | .mem (.idx i), .idx j => exact moveIdxIdx_bytes (fun s d => .movb (.mem s) d) i j rest

/-- MOVW has its pairs of forms at opcodes of its own (40_load_store_move.md R228). -/
theorem decode_encMove16 (src : MoveSrc16) (dst : Xea) (rest : List Byte) :
    decode (encMove16 src dst ++ rest) = .ok (.movw src dst, rest) := by
  match src, dst with
  | .imm v, .ext d => exact move16ImmExt_bytes v d rest
  | .imm v, .idx j => exact move16ImmIdx_bytes v j rest
  | .mem (.ext s), .ext d => exact moveExtExt_bytes (fun s d => .movw (.mem s) d) s d rest
  | .mem (.ext s), .idx j => exact moveExtIdx_bytes (fun s d => .movw (.mem s) d) s j rest
  | .mem (.idx i), .ext d => exact moveIdxExt_bytes (fun s d => .movw (.mem s) d) d i rest
  | .mem (.idx i), .idx j => exact moveIdxIdx_bytes (fun s d => .movw (.mem s) d) i j rest

/-! ### TRAP (30_encoding.md R107) -/

/-- The entry of each unimplemented opcode of page 2. -/
theorem page2_trapCodes : ∀ tn ∈ trapCodes, page2 tn = answer (.trap tn) := by
  simp only [trapCodes, List.forall_mem_cons]
  refine ⟨rfl, rfl, rfl, rfl, rfl, rfl, rfl, rfl, rfl, rfl, rfl, rfl, rfl, rfl, rfl, rfl, rfl, rfl, rfl, rfl, rfl, rfl,
    rfl, rfl, rfl, rfl, rfl, rfl, rfl, nofun⟩

theorem decode_trap {tn : Byte} (h : isTrapCode tn = true) (rest : List Byte) :
    decode (prebyte ++ [tn] ++ rest) = .ok (.trap tn, rest) :=
  decode_alone (page := prebyte) (page2_trapCodes tn (List.contains_iff_mem.1 h)) rest

/-! ### Every instruction -/

/-- The cases are the operand forms; the entry of each opcode named by the encoder is the reader of that form. An instruction
without operands, the second names among them (30_encoding.md R111), has closed object code and the decoder computes on it. -/
theorem decode_encode (i : Instr) (rest : List Byte) (h : i.wf = true) : decode (encode i ++ rest) = .ok (i.canon, rest) := by
  cases i with
  | ldaa s | ldab s | adca s | adcb s | adda s | addb s | sbca s | sbcb s | suba s | subb s | cmpa s | cmpb s | anda s
  | andb s | bita s | bitb s | eora s | eorb s | oraa s | orab s => exact decode_encSrc8 rfl rfl rfl rfl s rest
  | ldd s | lds s | ldx s | ldy s | addd s | addx s | addy s | aded s | adex s | adey s | subd s | subx s | suby s | sbed s
  | sbex s | sbey s | cpd s | cps s | cpx s | cpy s | cped s | cpes s | cpex s | cpey s | andx s | andy s | bitx s | bity s
  | eorx s | eory s | orx s | ory s => exact decode_encSrc16 rfl rfl rfl rfl s rest
  | staa e | stab e | std e | sts e | stx e | sty e | gldaa e | gldab e | gldd e | glds e | gldx e | gldy e | gstaa e
  | gstab e | gstd e | gsts e | gstx e | gsty e | jsr e => exact decode_encEa rfl rfl rfl e rest
  | clr e | clrw e | com e | comw e | neg e | negw e | dec e | decw e | inc e | incw e | tst e | tstw e | asl e | aslw e
  | lsl e | lslw e | asr e | asrw e | lsr e | lsrw e | rol e | rolw e | ror e | rorw e | jmp e =>
    exact decode_encXea rfl rfl e rest
  | leas i | leax i | leay i => exact decode_directIdx (page := []) rfl h rest
  | tbl i | etbl i => exact decode_shortIdx rfl h rest
  | maxa i | maxm i | mina i | minm i | emaxd i | emaxm i | emind i | eminm i => exact decode_idx rfl i rest
  | bcc b | bcs b | beq b | bge b | bgt b | bhi b | bhs b | ble b | blo b | bls b | blt b | bmi b | bne b | bpl b | bra b
  | brn b | bvc b | bvs b | bsr b | andcc b | orcc b => exact decode_byte (page := []) rfl b rest
  | emacs w | lbcc w | lbcs w | lbeq w | lbge w | lbgt w | lbhi w | lbhs w | lble w | lblo w | lbls w | lblt w | lbmi w
  | lbne w | lbpl w | lbra w | lbrn w | lbvc w | lbvs w => exact decode_word rfl w rest
  | bclr e mm | bset e mm | btas e mm => exact decode_bits rfl rfl rfl h mm rest
  | brclr e mm rr | brset e mm rr => exact decode_bitsBranch rfl rfl rfl h mm rr rest
  | dbeq c rel | dbne c rel | ibeq c rel | ibne c rel | tbeq c rel | tbne c rel =>
    exact decode_encLoop (fun _ _ => rfl) c rel rest
  | call t => exact decode_encCall h rest
  | tfr e src dst => exact decode_tfr e src dst rest
  | exg e src dst => exact decode_exg e src dst rest
  | sex op => exact decode_sex op rest
  | movb src dst => exact decode_encMove8 src dst rest
  | movw src dst => exact decode_encMove16 src dst rest
  | trap tn => exact decode_trap h rest
  | _ => rfl

/-- Settles O2: `decode_encode`, by the form of the operands. -/
theorem decodeEncodeRoundTrip : Obligations.DecodeEncodeRoundTrip := decode_encode

/-- Settles O1: the decoder computes on each of the closed words. -/
theorem writtenWordsDecode : Obligations.WrittenWordsDecode :=
  ⟨rfl, rfl, rfl, rfl, rfl, rfl, rfl, rfl, rfl, rfl, rfl, rfl⟩

end Sys2Proof
end

section
/-! The second names of object code (30_encoding.md R111) have the meaning of their core instruction. Settles O7. -/

namespace Sys2Proof.Machine

open Sys2Proof

/-- DES is LEAS with the offset -1 (40_load_store_move.md R214). -/
theorem exec_des_eq_leas (s : State) : exec .des s = exec (.leas (.off5 .sp 0x1F)) s := by
  have hoffset : (0x1F#5).signExtend 16 = (-1 : Word) := by decide
  show _ = Host.Outcome.next (s.setSp (s.sp + (0x1F#5).signExtend 16))
  rw [hoffset, ← sub_eq_add_neg]
  rfl

/-- SEX is the transfer of its postbyte, which extends the sign (41_transfer_exchange.md R306). -/
theorem exec_sex_eq_transfer (op : SexOp) (s : State) : exec (.sex op) s = exec op.transfer s := by
  cases op with
  | byte src dst => cases src <;> cases dst <;> rfl
  | _ => rfl

/-- The meaning of every other second name is written with the same operation as its core's. -/
theorem exec_canon (i : Instr) (s : State) : exec i s = exec i.canon s := by
  cases i with
  | des => exact exec_des_eq_leas s
  | sex op => exact exec_sex_eq_transfer op s
  | _ => rfl

/-- Settles O7: `exec_canon`. -/
theorem secondNamesRunAsCore : Obligations.SecondNamesRunAsCore := exec_canon

end Sys2Proof.Machine
end

section
/-! What the decoder answers (30_encoding.md R100, R107, R109): every entry of the two opcode maps reads a bounded number of
bytes from the front and answers a well-formed core instruction, TRAP only at an unimplemented opcode. Settles O3 and O5. -/

namespace Sys2Proof

open Sys2Proof.Machine

/-! ### Readers -/

/-- A reader of at most `n` bytes from the front, whose answers are all `good`; with `n` bytes it is never short of them. -/
structure Reads {α : Type} (n : Nat) (good : α → Prop) (p : Parser α) : Prop where
  answers : ∀ {bs rest : List Byte} {a : α}, p bs = .ok (a, rest) →
    good a ∧ ∃ used : List Byte, bs = used ++ rest ∧ used.length ≤ n
  fed : ∀ {bs : List Byte}, n ≤ bs.length → p bs ≠ .error .truncated

/-- Any operand value is good: what is read of an operand restricts it only where a form does. -/
def anyValue {α : Type} (_ : α) : Prop := True

theorem Reads.imp {α : Type} {n : Nat} {good good' : α → Prop} {p : Parser α} (hp : Reads n good p)
    (h : ∀ a, good a → good' a) : Reads n good' p where
  answers hpb := (hp.answers hpb).imp_left (h _)
  fed := hp.fed

theorem reads_answer {α : Type} {n : Nat} {good : α → Prop} {a : α} (h : good a) : Reads n good (answer a) where
  answers hp := by
    obtain ⟨rfl, rfl⟩ : a = _ ∧ _ = _ := by simpa using hp
    exact ⟨h, [], rfl, Nat.zero_le n⟩
  fed _ := nofun

theorem reads_reject {α : Type} {n : Nat} {good : α → Prop} {e : DecodeError} (h : e ≠ .truncated) :
    Reads n good (reject e : Parser α) where
  answers := nofun
  fed _ hp := h (Except.error.inj hp)

theorem reads_byte : Reads 1 anyValue byte where
  answers {bs rest b} hp := by
    cases bs with
    | nil => exact nomatch hp
    | cons c bs =>
      obtain ⟨rfl, rfl⟩ : c = b ∧ bs = rest := by simpa using hp
      exact ⟨trivial, [c], rfl, Nat.le_refl 1⟩
  fed {bs} hn := by
    cases bs with
    | nil => exact absurd hn (Nat.not_succ_le_zero 0)
    | cons c bs => exact nofun

/-- The second reader begins where the first one ends. -/
theorem Reads.andThen {α β : Type} {m n : Nat} {good : α → Prop} {good' : β → Prop} {p : Parser α} {f : α → Parser β}
    (hp : Reads m good p) (hf : ∀ a, good a → Reads n good' (f a)) : Reads (n + m) good' (Sys2Proof.andThen p f) where
  answers {bs rest b} h := by
    cases hpb : p bs with
    | error e => simp [Sys2Proof.andThen, hpb] at h
    | ok r =>
      obtain ⟨a, mid⟩ := r
      rw [andThen_ok hpb] at h
      obtain ⟨ha, used, rfl, hused⟩ := hp.answers hpb
      obtain ⟨hb, used', rfl, hused'⟩ := (hf a ha).answers h
      exact ⟨hb, used ++ used', (List.append_assoc ..).symm, by rw [List.length_append]; omega⟩
  fed {bs} hn h := by
    cases hpb : p bs with
    | error e =>
      have he : e = .truncated := by simpa [Sys2Proof.andThen, hpb] using h
      exact hp.fed (Nat.le_of_add_left_le hn) (he ▸ hpb)
    | ok r =>
      obtain ⟨a, mid⟩ := r
      rw [andThen_ok hpb] at h
      obtain ⟨ha, used, rfl, hused⟩ := hp.answers hpb
      exact (hf a ha).fed (by rw [List.length_append] at hn; omega) h

theorem reads_ite {α : Type} {n : Nat} {good : α → Prop} {c : Prop} [Decidable c] {p q : Parser α}
    (hp : c → Reads n good p) (hq : ¬ c → Reads n good q) : Reads n good (if c then p else q) := by
  split
  · exact hp ‹_›
  · exact hq ‹_›

theorem reads_word : Reads 2 anyValue word :=
  reads_byte.andThen fun _ _ => reads_byte.andThen fun _ _ => reads_answer trivial

theorem reads_highPostbyte (xb : Byte) : Reads 2 anyValue (highPostbyte xb) := by
  unfold highPostbyte
  split
  · exact reads_byte.andThen fun _ _ => reads_answer trivial
  · exact reads_byte.andThen fun _ _ => reads_answer trivial
  · exact reads_word.andThen fun _ _ => reads_answer trivial
  · exact reads_word.andThen fun _ _ => reads_answer trivial
  all_goals exact reads_answer trivial

theorem reads_indexed : Reads 3 anyValue indexed :=
  reads_byte.andThen fun xb _ => reads_ite (fun _ => reads_highPostbyte xb) fun _ => reads_answer trivial

/-! ### The readers of instructions, by the form of their operands -/

/-- The second byte of TRAP (30_encoding.md R107). -/
def Instr.trapCode : Instr → Option Byte
  | .trap tn => some tn
  | _ => none

/-- A well-formed core instruction, TRAP only with a code that `trapAt` allows. -/
structure CoreInstr (trapAt : Byte → Bool) (i : Instr) : Prop where
  wf : i.wf = true
  canon : i.canon = i
  trap : i.trapCode.all trapAt = true

theorem trapCode_all_true (i : Instr) : i.trapCode.all (fun _ => true) = true := by
  cases i.trapCode with
  | none => rfl
  | some tn => rfl

namespace Reads

variable {n : Nat} {trapAt : Byte → Bool}

theorem alone {i : Instr} (h : CoreInstr trapAt i) : Reads n (CoreInstr trapAt) (answer i) :=
  reads_answer h

theorem trap {op : Byte} (h : isTrapCode op = true) :
    Reads n (CoreInstr fun tn => tn == op) (answer (.trap op)) :=
  reads_answer ⟨h, rfl, beq_self_eq_true op⟩

/-- The forms with one operand byte: IMM8, DIR, REL8 (30_encoding.md R102). -/
theorem byte {f : Byte → Instr} (h : ∀ b, CoreInstr trapAt (f b)) :
    Reads (n + 1) (CoreInstr trapAt) (pByte f) :=
  reads_byte.andThen fun b _ => reads_answer (h b)

/-- The forms with two operand bytes: IMM16, EXT, REL16 (R102). -/
theorem word {f : Word → Instr} (h : ∀ w, CoreInstr trapAt (f w)) :
    Reads (n + 2) (CoreInstr trapAt) (pExt f) :=
  reads_word.andThen fun w _ => reads_answer (h w)

/-- The forms with an indexed operand of any class (31_indexed_postbyte.md R141). -/
theorem idx {f : Idx → Instr} (h : ∀ i, CoreInstr trapAt (f i)) :
    Reads (n + 3) (CoreInstr trapAt) (anyIdx f) :=
  reads_indexed.andThen fun i _ => reads_answer (h i)

/-! The forms whose check on the operand is the instruction's own (31_indexed_postbyte.md R160). -/

theorem direct {f : Idx → Instr}
    (h : ∀ i, i.isDirect = true → CoreInstr trapAt (f i)) :
    Reads (n + 3) (CoreInstr trapAt) (directIdx f) :=
  reads_indexed.andThen fun i _ => reads_ite (fun hi => reads_answer (h i hi)) fun _ => reads_reject nofun

theorem short {f : Idx → Instr}
    (h : ∀ i, i.noExtension = true → CoreInstr trapAt (f i)) :
    Reads (n + 3) (CoreInstr trapAt) (shortIdx f) :=
  reads_indexed.andThen fun i _ => reads_ite (fun hi => reads_answer (h i hi)) fun _ => reads_reject nofun

section Bits

variable {f : Ea → Byte → Instr}
  (h : ∀ e mm, e.isDirect = true → CoreInstr trapAt (f e mm))

include h

theorem bitDir : Reads (n + 2) (CoreInstr trapAt) (bitDir f) :=
  reads_byte.andThen fun _ _ => reads_byte.andThen fun mm _ => reads_answer (h _ mm rfl)

theorem bitExt : Reads (n + 3) (CoreInstr trapAt) (bitExt f) :=
  reads_word.andThen fun _ _ => reads_byte.andThen fun mm _ => reads_answer (h _ mm rfl)

theorem bitIdx : Reads (n + 4) (CoreInstr trapAt) (bitIdx f) :=
  reads_indexed.andThen fun i _ => reads_byte.andThen fun mm _ =>
    reads_ite (fun hi => reads_answer (h (.idx i) mm hi)) fun _ => reads_reject nofun

end Bits

section BitBranches

variable {f : Ea → Byte → Byte → Instr}
  (h : ∀ e mm rr, e.isDirect = true → CoreInstr trapAt (f e mm rr))

include h

theorem bitRelDir : Reads (n + 3) (CoreInstr trapAt) (bitRelDir f) :=
  reads_byte.andThen fun _ _ => reads_byte.andThen fun mm _ => reads_byte.andThen fun rr _ =>
    reads_answer (h _ mm rr rfl)

theorem bitRelExt : Reads (n + 4) (CoreInstr trapAt) (bitRelExt f) :=
  reads_word.andThen fun _ _ => reads_byte.andThen fun mm _ => reads_byte.andThen fun rr _ =>
    reads_answer (h _ mm rr rfl)

theorem bitRelIdx : Reads (n + 5) (CoreInstr trapAt) (bitRelIdx f) :=
  reads_indexed.andThen fun i _ => reads_byte.andThen fun mm _ => reads_byte.andThen fun rr _ =>
    reads_ite (fun hi => reads_answer (h (.idx i) mm rr hi)) fun _ => reads_reject nofun

end BitBranches

theorem callIdx : Reads (n + 4) (CoreInstr trapAt) callIdx :=
  reads_indexed.andThen fun i _ => reads_ite
    (fun hi => reads_byte.andThen fun _ _ => reads_answer ⟨hi, rfl, rfl⟩)
    fun hi => reads_answer ⟨(congrArg (!·) (eq_false_of_ne_true hi) : (!i.isDirect) = true), rfl, rfl⟩

theorem callExt : Reads (n + 3) (CoreInstr trapAt) callExt :=
  reads_word.andThen fun _ _ => reads_byte.andThen fun _ _ => reads_answer ⟨rfl, rfl, rfl⟩

/-! The moves (40_load_store_move.md R228). -/

section Moves

theorem move8ImmExt : Reads (n + 3) (CoreInstr trapAt) move8ImmExt :=
  reads_byte.andThen fun _ _ => reads_word.andThen fun _ _ => reads_answer ⟨rfl, rfl, rfl⟩

theorem move8ImmIdx : Reads (n + 4) (CoreInstr trapAt) move8ImmIdx :=
  reads_indexed.andThen fun _ _ => reads_byte.andThen fun _ _ => reads_answer ⟨rfl, rfl, rfl⟩

theorem move16ImmExt : Reads (n + 4) (CoreInstr trapAt) move16ImmExt :=
  reads_word.andThen fun _ _ => reads_word.andThen fun _ _ => reads_answer ⟨rfl, rfl, rfl⟩

theorem move16ImmIdx : Reads (n + 5) (CoreInstr trapAt) move16ImmIdx :=
  reads_indexed.andThen fun _ _ => reads_word.andThen fun _ _ => reads_answer ⟨rfl, rfl, rfl⟩

variable {f : Xea → Xea → Instr} (h : ∀ s d, CoreInstr trapAt (f s d))

include h

theorem moveExtExt : Reads (n + 4) (CoreInstr trapAt) (moveExtExt f) :=
  reads_word.andThen fun _ _ => reads_word.andThen fun _ _ => reads_answer (h _ _)

theorem moveExtIdx : Reads (n + 5) (CoreInstr trapAt) (moveExtIdx f) :=
  reads_indexed.andThen fun _ _ => reads_word.andThen fun _ _ => reads_answer (h _ _)

theorem moveIdxExt : Reads (n + 5) (CoreInstr trapAt) (moveIdxExt f) :=
  reads_indexed.andThen fun _ _ => reads_word.andThen fun _ _ => reads_answer (h _ _)

theorem moveIdxIdx : Reads (n + 6) (CoreInstr trapAt) (moveIdxIdx f) :=
  reads_indexed.andThen fun _ _ => reads_indexed.andThen fun _ _ => reads_answer (h _ _)

end Moves

theorem pair : Reads (n + 1) (CoreInstr trapAt) registerPair :=
  reads_byte.andThen fun eb _ => reads_answer <| by
    cases eb.getLsbD 7 with
    | true => exact ⟨rfl, rfl, rfl⟩
    | false => exact ⟨rfl, rfl, rfl⟩

end Reads

theorem core_of_loopOperation {trapAt : Byte → Bool} {op : BitVec 3} {c : Ctr} {rel : BitVec 9} {i : Instr}
    (h : loopOperation op c rel = some i) : CoreInstr trapAt i := by
  unfold loopOperation at h
  split at h
  case h_7 => exact nomatch h
  all_goals
    obtain rfl := Option.some.inj h
    exact ⟨rfl, rfl, rfl⟩

theorem Reads.loop {n : Nat} {trapAt : Byte → Bool} : Reads (n + 2) (CoreInstr trapAt) loopPrimitive :=
  reads_byte.andThen fun _ _ => reads_byte.andThen fun _ _ => by
    split
    · exact reads_reject nofun
    · split
      · exact reads_reject nofun
      · exact reads_answer (core_of_loopOperation ‹_›)

/-! ### The opcode maps -/

/-- `E` holds of each entry of a row of an opcode map that begins at `op`. -/
def RowEntries (E : Byte → Parser Instr → Prop) (op : Byte) : List (Parser Instr) → Prop
  | [] => True
  | p :: ps => E op p ∧ RowEntries E (op + 1) ps

section Lookup

variable {E : Byte → Parser Instr → Prop}

theorem RowEntries.getD {row : List (Parser Instr)} {op : Byte} (h : RowEntries E op row)
    {k : Nat} (hk : k < row.length) (d : Parser Instr) : E (op + BitVec.ofNat 8 k) (row.getD k d) := by
  induction row generalizing op k with
  | nil => exact absurd hk (Nat.not_lt_zero k)
  | cons p ps ih =>
    obtain ⟨hp, hps⟩ := h
    cases k with
    | zero => simpa using hp
    | succ k =>
      have hop : op + 1 + BitVec.ofNat 8 k = op + BitVec.ofNat 8 (k + 1) := by
        rw [BitVec.add_assoc, Nat.add_comm k 1]; exact congrArg _ (BitVec.ofNat_add 1 k).symm
      exact hop ▸ ih hps (Nat.lt_of_succ_lt_succ hk)

/-- `E` holds of each entry of an opcode map of rows of sixteen, the first of which begins at `op`. -/
def MapEntries (E : Byte → Parser Instr → Prop) (op : Byte) : List (List (Parser Instr)) → Prop
  | [] => True
  | row :: rows => (row.length = 16 ∧ RowEntries E op row) ∧ MapEntries E (op + 16) rows

theorem MapEntries.getD {rows : List (List (Parser Instr))} {op : Byte} (h : MapEntries E op rows)
    {r : Nat} (hr : r < rows.length) :
    (rows.getD r []).length = 16 ∧ RowEntries E (op + BitVec.ofNat 8 (16 * r)) (rows.getD r []) := by
  induction rows generalizing op r with
  | nil => exact absurd hr (Nat.not_lt_zero r)
  | cons row rows ih =>
    obtain ⟨hrow, hrows⟩ := h
    cases r with
    | zero => simpa using hrow
    | succ r =>
      have hop : op + 16 + BitVec.ofNat 8 (16 * r) = op + BitVec.ofNat 8 (16 * (r + 1)) := by
        rw [BitVec.add_assoc, Nat.mul_succ, Nat.add_comm _ 16]; exact congrArg _ (BitVec.ofNat_add 16 _).symm
      exact hop ▸ ih hrows (Nat.lt_of_succ_lt_succ hr)

/-- A full map has the entry of each opcode (30_encoding.md R105, R106). -/
theorem lookup_of_mapEntries {rows : List (List (Parser Instr))} (h : MapEntries E 0#8 rows)
    (hlen : rows.length = 16) (op : Byte) : E op (lookup rows op) := by
  have hop : 0#8 + BitVec.ofNat 8 (16 * (op.toNat / 16)) + BitVec.ofNat 8 (op.toNat % 16) = op := by
    rw [BitVec.zero_add, ← BitVec.ofNat_add, Nat.div_add_mod, BitVec.ofNat_toNat, BitVec.setWidth_eq]
  obtain ⟨hrow, hentries⟩ := h.getD (r := op.toNat / 16) (by omega)
  have hentry := hentries.getD (k := op.toNat % 16) (by omega) (reject .truncated)
  rwa [hop] at hentry

end Lookup

/-! Each row goes entry by entry: the form of the operands says how many bytes follow, and the goals left over say that the
instruction is a well-formed core one, which computes. -/

/-- An entry of page 2 has at most six bytes after the opcode and answers TRAP with the opcode alone (30_encoding.md R107). -/
def PageTwoEntry (op : Byte) (p : Parser Instr) : Prop := Reads 6 (CoreInstr fun tn => tn == op) p

theorem page2Row0_entries : RowEntries PageTwoEntry 0x00 page2Row0 := by
  refine ⟨.move16ImmIdx, .moveExtIdx ?_, .moveIdxIdx ?_, .move16ImmExt, .moveExtExt ?_, .moveIdxExt ?_, .alone ?_, .alone ?_,
    .move8ImmIdx, .moveExtIdx ?_, .moveIdxIdx ?_, .move8ImmExt, .moveExtExt ?_, .moveIdxExt ?_, .alone ?_, .alone ?_, trivial⟩
  all_goals intros; exact ⟨rfl, rfl, rfl⟩

theorem page2Row1_entries : RowEntries PageTwoEntry 0x10 page2Row1 := by
  refine ⟨.alone ?_, .alone ?_, .word ?_, .alone ?_, .alone ?_, .alone ?_, .alone ?_, .alone ?_, .idx ?_, .idx ?_, .idx ?_,
    .idx ?_, .idx ?_, .idx ?_, .idx ?_, .idx ?_, trivial⟩
  all_goals intros; exact ⟨rfl, rfl, rfl⟩

theorem page2Row2_entries : RowEntries PageTwoEntry 0x20 page2Row2 := by
  refine ⟨.word ?_, .word ?_, .word ?_, .word ?_, .word ?_, .word ?_, .word ?_, .word ?_, .word ?_, .word ?_, .word ?_,
    .word ?_, .word ?_, .word ?_, .word ?_, .word ?_, trivial⟩
  all_goals intros; exact ⟨rfl, rfl, rfl⟩

theorem page2Row3_entries : RowEntries PageTwoEntry 0x30 page2Row3 := by
  refine ⟨.trap rfl, .trap rfl, .trap rfl, .trap rfl, .trap rfl, .bitDir fun _ _ h => ⟨h, rfl, rfl⟩,
    .bitExt fun _ _ h => ⟨h, rfl, rfl⟩, .bitIdx fun _ _ h => ⟨h, rfl, rfl⟩, .alone ?_, .alone ?_, .alone ?_, .alone ?_,
    .alone ?_, .short fun _ hi => ⟨hi, rfl, rfl⟩, .alone ?_, .short fun _ hi => ⟨hi, rfl, rfl⟩, trivial⟩
  all_goals exact ⟨rfl, rfl, rfl⟩

theorem page2Row4_entries : RowEntries PageTwoEntry 0x40 page2Row4 := by
  refine ⟨.alone ?_, .alone ?_, .alone ?_, .alone ?_, .alone ?_, .alone ?_, .alone ?_, .alone ?_, .alone ?_, .trap rfl,
    .trap rfl, .trap rfl, .trap rfl, .trap rfl, .trap rfl, .trap rfl, trivial⟩
  all_goals exact ⟨rfl, rfl, rfl⟩

theorem page2Row5_entries : RowEntries PageTwoEntry 0x50 page2Row5 := by
  refine ⟨.alone ?_, .alone ?_, .alone ?_, .alone ?_, .alone ?_, .alone ?_, .alone ?_, .alone ?_, .alone ?_, .trap rfl,
    .byte ?_, .byte ?_, .byte ?_, .byte ?_, .byte ?_, .byte ?_, trivial⟩
  all_goals intros; exact ⟨rfl, rfl, rfl⟩

theorem page2Row6_entries : RowEntries PageTwoEntry 0x60 page2Row6 := by
  refine ⟨.idx ?_, .idx ?_, .idx ?_, .idx ?_, .idx ?_, .idx ?_, .idx ?_, .idx ?_, .idx ?_, .idx ?_, .idx ?_, .idx ?_, .idx ?_,
    .idx ?_, .idx ?_, .idx ?_, trivial⟩
  all_goals intros; exact ⟨rfl, rfl, rfl⟩

theorem page2Row7_entries : RowEntries PageTwoEntry 0x70 page2Row7 := by
  refine ⟨.word ?_, .word ?_, .word ?_, .word ?_, .word ?_, .word ?_, .word ?_, .word ?_, .word ?_, .word ?_, .word ?_,
    .word ?_, .word ?_, .word ?_, .word ?_, .word ?_, trivial⟩
  all_goals intros; exact ⟨rfl, rfl, rfl⟩

theorem page2Row8_entries : RowEntries PageTwoEntry 0x80 page2Row8 := by
  refine ⟨.word ?_, .trap rfl, .word ?_, .word ?_, .word ?_, .word ?_, .trap rfl, .alone ?_, .word ?_, .word ?_, .word ?_,
    .word ?_, .word ?_, .word ?_, .word ?_, .word ?_, trivial⟩
  all_goals intros; exact ⟨rfl, rfl, rfl⟩

theorem page2Row9_entries : RowEntries PageTwoEntry 0x90 page2Row9 := by
  refine ⟨.byte ?_, .trap rfl, .byte ?_, .byte ?_, .byte ?_, .byte ?_, .byte ?_, .alone ?_, .byte ?_, .byte ?_, .byte ?_,
    .byte ?_, .byte ?_, .byte ?_, .byte ?_, .byte ?_, trivial⟩
  all_goals intros; exact ⟨rfl, rfl, rfl⟩

theorem page2RowA_entries : RowEntries PageTwoEntry 0xA0 page2RowA := by
  refine ⟨.idx ?_, .trap rfl, .idx ?_, .idx ?_, .idx ?_, .idx ?_, .idx ?_, .trap rfl, .idx ?_, .idx ?_, .idx ?_, .idx ?_,
    .idx ?_, .idx ?_, .idx ?_, .idx ?_, trivial⟩
  all_goals intros; exact ⟨rfl, rfl, rfl⟩

theorem page2RowB_entries : RowEntries PageTwoEntry 0xB0 page2RowB := by
  refine ⟨.word ?_, .trap rfl, .word ?_, .word ?_, .word ?_, .word ?_, .word ?_, .trap rfl, .word ?_, .word ?_, .word ?_,
    .word ?_, .word ?_, .word ?_, .word ?_, .word ?_, trivial⟩
  all_goals intros; exact ⟨rfl, rfl, rfl⟩

theorem page2RowC_entries : RowEntries PageTwoEntry 0xC0 page2RowC := by
  refine ⟨.word ?_, .trap rfl, .word ?_, .word ?_, .word ?_, .word ?_, .trap rfl, .alone ?_, .word ?_, .word ?_, .word ?_,
    .word ?_, .trap rfl, .trap rfl, .trap rfl, .trap rfl, trivial⟩
  all_goals intros; exact ⟨rfl, rfl, rfl⟩

theorem page2RowD_entries : RowEntries PageTwoEntry 0xD0 page2RowD := by
  refine ⟨.byte ?_, .trap rfl, .byte ?_, .byte ?_, .byte ?_, .byte ?_, .byte ?_, .alone ?_, .byte ?_, .byte ?_, .byte ?_,
    .byte ?_, .byte ?_, .byte ?_, .byte ?_, .byte ?_, trivial⟩
  all_goals intros; exact ⟨rfl, rfl, rfl⟩

theorem page2RowE_entries : RowEntries PageTwoEntry 0xE0 page2RowE := by
  refine ⟨.idx ?_, .trap rfl, .idx ?_, .idx ?_, .idx ?_, .idx ?_, .idx ?_, .idx ?_, .idx ?_, .idx ?_, .idx ?_, .idx ?_,
    .idx ?_, .idx ?_, .idx ?_, .idx ?_, trivial⟩
  all_goals intros; exact ⟨rfl, rfl, rfl⟩

theorem page2RowF_entries : RowEntries PageTwoEntry 0xF0 page2RowF := by
  refine ⟨.word ?_, .trap rfl, .word ?_, .word ?_, .word ?_, .word ?_, .word ?_, .word ?_, .word ?_, .word ?_, .word ?_,
    .word ?_, .word ?_, .word ?_, .word ?_, .word ?_, trivial⟩
  all_goals intros; exact ⟨rfl, rfl, rfl⟩

theorem page2_mapEntries : MapEntries PageTwoEntry 0#8
    [page2Row0, page2Row1, page2Row2, page2Row3, page2Row4, page2Row5, page2Row6, page2Row7, page2Row8, page2Row9, page2RowA,
      page2RowB, page2RowC, page2RowD, page2RowE, page2RowF] :=
  ⟨⟨rfl, page2Row0_entries⟩, ⟨rfl, page2Row1_entries⟩, ⟨rfl, page2Row2_entries⟩, ⟨rfl, page2Row3_entries⟩,
    ⟨rfl, page2Row4_entries⟩, ⟨rfl, page2Row5_entries⟩, ⟨rfl, page2Row6_entries⟩, ⟨rfl, page2Row7_entries⟩,
    ⟨rfl, page2Row8_entries⟩, ⟨rfl, page2Row9_entries⟩, ⟨rfl, page2RowA_entries⟩, ⟨rfl, page2RowB_entries⟩,
    ⟨rfl, page2RowC_entries⟩, ⟨rfl, page2RowD_entries⟩, ⟨rfl, page2RowE_entries⟩, ⟨rfl, page2RowF_entries⟩, trivial⟩

theorem page2_reads (op : Byte) : Reads 6 (CoreInstr fun tn => tn == op) (page2 op) :=
  lookup_of_mapEntries page2_mapEntries rfl op

/-- Page 2 answers TRAP, at the opcode that its prebyte precedes (30_encoding.md R101). -/
theorem pageTwo_entry : Reads 7 (CoreInstr fun _ => (0x18 : Byte) == 0x18) pageTwo :=
  reads_byte.andThen fun op _ => (page2_reads op).imp fun _ hi => { hi with trap := trapCode_all_true _ }

/-- An entry of page 1 has at most seven bytes after the opcode and answers TRAP behind the prebyte alone. -/
def PageOneEntry (op : Byte) (p : Parser Instr) : Prop := Reads 7 (CoreInstr fun _ => op == 0x18) p

theorem page1Row0_entries : RowEntries PageOneEntry 0x00 page1Row0 := by
  refine ⟨.alone ?_, .alone ?_, .alone ?_, .alone ?_, .loop, .idx ?_, .word ?_, .byte ?_, .alone ?_, .alone ?_, .alone ?_,
    .alone ?_, .bitIdx fun _ _ h => ⟨h, rfl, rfl⟩, .bitIdx fun _ _ h => ⟨h, rfl, rfl⟩,
    .bitRelIdx fun _ _ _ h => ⟨h, rfl, rfl⟩, .bitRelIdx fun _ _ _ h => ⟨h, rfl, rfl⟩, trivial⟩
  all_goals intros; exact ⟨rfl, rfl, rfl⟩

theorem page1Row1_entries : RowEntries PageOneEntry 0x10 page1Row1 := by
  refine ⟨.byte ?_, .alone ?_, .alone ?_, .alone ?_, .byte ?_, .idx ?_, .word ?_, .byte ?_, pageTwo_entry,
    .direct fun _ hi => ⟨hi, rfl, rfl⟩, .direct fun _ hi => ⟨hi, rfl, rfl⟩, .direct fun _ hi => ⟨hi, rfl, rfl⟩,
    .bitExt fun _ _ h => ⟨h, rfl, rfl⟩, .bitExt fun _ _ h => ⟨h, rfl, rfl⟩, .bitRelExt fun _ _ _ h => ⟨h, rfl, rfl⟩,
    .bitRelExt fun _ _ _ h => ⟨h, rfl, rfl⟩, trivial⟩
  all_goals intros; exact ⟨rfl, rfl, rfl⟩

theorem page1Row2_entries : RowEntries PageOneEntry 0x20 page1Row2 := by
  refine ⟨.byte ?_, .byte ?_, .byte ?_, .byte ?_, .byte ?_, .byte ?_, .byte ?_, .byte ?_, .byte ?_, .byte ?_, .byte ?_,
    .byte ?_, .byte ?_, .byte ?_, .byte ?_, .byte ?_, trivial⟩
  all_goals intros; exact ⟨rfl, rfl, rfl⟩

theorem page1Row3_entries : RowEntries PageOneEntry 0x30 page1Row3 := by
  refine ⟨.alone ?_, .alone ?_, .alone ?_, .alone ?_, .alone ?_, .alone ?_, .alone ?_, .alone ?_, .alone ?_, .alone ?_,
    .alone ?_, .alone ?_, .alone ?_, .alone ?_, .alone ?_, .alone ?_, trivial⟩
  all_goals exact ⟨rfl, rfl, rfl⟩

theorem page1Row4_entries : RowEntries PageOneEntry 0x40 page1Row4 := by
  refine ⟨.alone ?_, .alone ?_, .alone ?_, .alone ?_, .alone ?_, .alone ?_, .alone ?_, .alone ?_, .alone ?_, .alone ?_,
    .callExt, .callIdx, .bitDir fun _ _ h => ⟨h, rfl, rfl⟩, .bitDir fun _ _ h => ⟨h, rfl, rfl⟩,
    .bitRelDir fun _ _ _ h => ⟨h, rfl, rfl⟩, .bitRelDir fun _ _ _ h => ⟨h, rfl, rfl⟩, trivial⟩
  all_goals exact ⟨rfl, rfl, rfl⟩

theorem page1Row5_entries : RowEntries PageOneEntry 0x50 page1Row5 := by
  refine ⟨.alone ?_, .alone ?_, .alone ?_, .alone ?_, .alone ?_, .alone ?_, .alone ?_, .alone ?_, .alone ?_, .alone ?_,
    .byte ?_, .byte ?_, .byte ?_, .byte ?_, .byte ?_, .byte ?_, trivial⟩
  all_goals intros; exact ⟨rfl, rfl, rfl⟩

theorem page1Row6_entries : RowEntries PageOneEntry 0x60 page1Row6 := by
  refine ⟨.idx ?_, .idx ?_, .idx ?_, .idx ?_, .idx ?_, .idx ?_, .idx ?_, .idx ?_, .idx ?_, .idx ?_, .idx ?_, .idx ?_, .idx ?_,
    .idx ?_, .idx ?_, .idx ?_, trivial⟩
  all_goals intros; exact ⟨rfl, rfl, rfl⟩

theorem page1Row7_entries : RowEntries PageOneEntry 0x70 page1Row7 := by
  refine ⟨.word ?_, .word ?_, .word ?_, .word ?_, .word ?_, .word ?_, .word ?_, .word ?_, .word ?_, .word ?_, .word ?_,
    .word ?_, .word ?_, .word ?_, .word ?_, .word ?_, trivial⟩
  all_goals intros; exact ⟨rfl, rfl, rfl⟩

theorem page1Row8_entries : RowEntries PageOneEntry 0x80 page1Row8 := by
  refine ⟨.byte ?_, .byte ?_, .byte ?_, .word ?_, .byte ?_, .byte ?_, .byte ?_, .alone ?_, .byte ?_, .byte ?_, .byte ?_,
    .byte ?_, .word ?_, .word ?_, .word ?_, .word ?_, trivial⟩
  all_goals intros; exact ⟨rfl, rfl, rfl⟩

theorem page1Row9_entries : RowEntries PageOneEntry 0x90 page1Row9 := by
  refine ⟨.byte ?_, .byte ?_, .byte ?_, .byte ?_, .byte ?_, .byte ?_, .byte ?_, .alone ?_, .byte ?_, .byte ?_, .byte ?_,
    .byte ?_, .byte ?_, .byte ?_, .byte ?_, .byte ?_, trivial⟩
  all_goals intros; exact ⟨rfl, rfl, rfl⟩

theorem page1RowA_entries : RowEntries PageOneEntry 0xA0 page1RowA := by
  refine ⟨.idx ?_, .idx ?_, .idx ?_, .idx ?_, .idx ?_, .idx ?_, .idx ?_, .alone ?_, .idx ?_, .idx ?_, .idx ?_, .idx ?_,
    .idx ?_, .idx ?_, .idx ?_, .idx ?_, trivial⟩
  all_goals intros; exact ⟨rfl, rfl, rfl⟩

theorem page1RowB_entries : RowEntries PageOneEntry 0xB0 page1RowB := by
  refine ⟨.word ?_, .word ?_, .word ?_, .word ?_, .word ?_, .word ?_, .word ?_, .pair, .word ?_, .word ?_, .word ?_, .word ?_,
    .word ?_, .word ?_, .word ?_, .word ?_, trivial⟩
  all_goals intros; exact ⟨rfl, rfl, rfl⟩

theorem page1RowC_entries : RowEntries PageOneEntry 0xC0 page1RowC := by
  refine ⟨.byte ?_, .byte ?_, .byte ?_, .word ?_, .byte ?_, .byte ?_, .byte ?_, .alone ?_, .byte ?_, .byte ?_, .byte ?_,
    .byte ?_, .word ?_, .word ?_, .word ?_, .word ?_, trivial⟩
  all_goals intros; exact ⟨rfl, rfl, rfl⟩

theorem page1RowD_entries : RowEntries PageOneEntry 0xD0 page1RowD := by
  refine ⟨.byte ?_, .byte ?_, .byte ?_, .byte ?_, .byte ?_, .byte ?_, .byte ?_, .alone ?_, .byte ?_, .byte ?_, .byte ?_,
    .byte ?_, .byte ?_, .byte ?_, .byte ?_, .byte ?_, trivial⟩
  all_goals intros; exact ⟨rfl, rfl, rfl⟩

theorem page1RowE_entries : RowEntries PageOneEntry 0xE0 page1RowE := by
  refine ⟨.idx ?_, .idx ?_, .idx ?_, .idx ?_, .idx ?_, .idx ?_, .idx ?_, .idx ?_, .idx ?_, .idx ?_, .idx ?_, .idx ?_, .idx ?_,
    .idx ?_, .idx ?_, .idx ?_, trivial⟩
  all_goals intros; exact ⟨rfl, rfl, rfl⟩

theorem page1RowF_entries : RowEntries PageOneEntry 0xF0 page1RowF := by
  refine ⟨.word ?_, .word ?_, .word ?_, .word ?_, .word ?_, .word ?_, .word ?_, .word ?_, .word ?_, .word ?_, .word ?_,
    .word ?_, .word ?_, .word ?_, .word ?_, .word ?_, trivial⟩
  all_goals intros; exact ⟨rfl, rfl, rfl⟩

theorem page1_mapEntries : MapEntries PageOneEntry 0#8
    [page1Row0, page1Row1, page1Row2, page1Row3, page1Row4, page1Row5, page1Row6, page1Row7, page1Row8, page1Row9, page1RowA,
      page1RowB, page1RowC, page1RowD, page1RowE, page1RowF] :=
  ⟨⟨rfl, page1Row0_entries⟩, ⟨rfl, page1Row1_entries⟩, ⟨rfl, page1Row2_entries⟩, ⟨rfl, page1Row3_entries⟩,
    ⟨rfl, page1Row4_entries⟩, ⟨rfl, page1Row5_entries⟩, ⟨rfl, page1Row6_entries⟩, ⟨rfl, page1Row7_entries⟩,
    ⟨rfl, page1Row8_entries⟩, ⟨rfl, page1Row9_entries⟩, ⟨rfl, page1RowA_entries⟩, ⟨rfl, page1RowB_entries⟩,
    ⟨rfl, page1RowC_entries⟩, ⟨rfl, page1RowD_entries⟩, ⟨rfl, page1RowE_entries⟩, ⟨rfl, page1RowF_entries⟩, trivial⟩

theorem page1_reads (op : Byte) : Reads 7 (CoreInstr fun _ => op == 0x18) (page1 op) :=
  lookup_of_mapEntries page1_mapEntries rfl op

theorem decode_reads : Reads 8 (CoreInstr fun _ => true) decode :=
  reads_byte.andThen fun op _ => (page1_reads op).imp fun _ hi => { hi with trap := trapCode_all_true _ }

/-! ### The statements -/

/-- Settles O3: the answers are those of `decode_reads`, and a decoded instruction has its opcode. -/
theorem decodeAnswersWellFormed : Obligations.DecodeAnswersWellFormed := by
  refine ⟨fun bs rest i h => ?_, fun bs hlen => decode_reads.fed hlen⟩
  cases bs with
  | nil => exact nomatch h
  | cons op bs =>
    obtain ⟨hi, used, rfl, hused⟩ := (page1_reads op).answers (h : page1 op bs = _)
    exact ⟨hi.wf, hi.canon, op :: used, rfl, Nat.succ_pos _, Nat.succ_le_succ hused⟩

/-- TRAP is answered behind the prebyte, with the opcode of page 2 that follows. -/
theorem eq_trap_of_decode {op tn : Byte} {bs rest : List Byte} (h : decode (op :: bs) = .ok (.trap tn, rest)) :
    op = 0x18 ∧ ∃ more, bs = tn :: more := by
  obtain ⟨hi, -⟩ := (page1_reads op).answers (h : page1 op bs = _)
  obtain rfl : op = 0x18 := eq_of_beq hi.trap
  cases bs with
  | nil => exact nomatch h
  | cons code more =>
    obtain ⟨hcode, -⟩ := (page2_reads code).answers (h : page2 code more = _)
    obtain rfl : tn = code := eq_of_beq hcode.trap
    exact ⟨rfl, more, rfl⟩

/-- Settles O5: TRAP is well-formed at the 29 codes only, where the round trip gives it back and leaves the bytes after. -/
theorem unimplementedOpcodesAreTraps : Obligations.UnimplementedOpcodesAreTraps := by
  refine ⟨rfl, by decide, fun tn rest htn => decode_trap (List.contains_iff_mem.2 htn) rest, fun op tn bs rest h => ?_⟩
  have hwf : isTrapCode tn = true := (decode_reads.answers h).1.wf
  obtain ⟨rfl, more, rfl⟩ := eq_trap_of_decode h
  obtain ⟨-, rfl⟩ := Prod.mk.inj (Except.ok.inj ((decode_trap hwf more).symm.trans h))
  exact ⟨rfl, List.contains_iff_mem.1 hwf, rfl⟩

end Sys2Proof
end

section
/-! The encodings without meaning: the loop postbytes of 47_branch_loop_jump.md R745 and the indexed postbytes that
31_indexed_postbyte.md R160 leaves out, refused by the reader of the operands. Settles O4. -/

namespace Sys2Proof

/-! ### Loop postbytes (47_branch_loop_jump.md R741, R745) -/

theorem ctr_ofBits_reserved {code : BitVec 3} (h : code = 2#3 ∨ code = 3#3) : Ctr.ofBits code = none := by
  rcases h with rfl | rfl
  · rfl
  · rfl

/-- The operation field lb[7:5] is %11x, whatever its lowest bit, when lb[7:6] is %11. -/
theorem loopOperation_reserved {lb : Byte} (h : lb.extractLsb' 6 2 = 3#2) (c : Ctr) (rel : BitVec 9) :
    loopOperation (lb.extractLsb' 5 3) c rel = none := by
  have hfield : ∀ b : Byte, b.extractLsb' 6 2 = 3#2 → b.extractLsb' 5 3 = 6#3 ∨ b.extractLsb' 5 3 = 7#3 := by decide
  rcases hfield lb h with hop | hop
  · rw [hop]; rfl
  · rw [hop]; rfl

/-- A postbyte without an operation or without a counter register has no row in the table of R745. -/
theorem loopPrimitive_reserved {lb : Byte}
    (h : lb.extractLsb' 6 2 = 3#2 ∨ lb.extractLsb' 0 3 = 2#3 ∨ lb.extractLsb' 0 3 = 3#3) (rr : Byte) (rest : List Byte) :
    loopPrimitive (lb :: rr :: rest) = .error .reservedLoopCode := by
  rcases h with hop | hctr
  · cases hc : Ctr.ofBits (lb.extractLsb' 0 3) with
    | none => simp [loopPrimitive, hc]
    | some c => simp [loopPrimitive, hc, loopOperation_reserved hop]
  · simp [loopPrimitive, ctr_ofBits_reserved hctr]

/-! ### Indexed postbytes (31_indexed_postbyte.md R160): each form reads its operand back, then checks its class -/

theorem directIdx_reserved (f : Idx → Instr) {i : Idx} (hi : i.isDirect = false) (rest : List Byte) :
    directIdx f (i.bytes ++ rest) = .error .reservedPostbyte := by
  simp [directIdx, hi]

theorem shortIdx_reserved (f : Idx → Instr) {i : Idx} (hi : i.noExtension = false) (rest : List Byte) :
    shortIdx f (i.bytes ++ rest) = .error .reservedPostbyte := by
  simp [shortIdx, hi]

theorem bitIdx_reserved (f : Ea → Byte → Instr) {i : Idx} (hi : i.isDirect = false) (mm : Byte) (rest : List Byte) :
    bitIdx f (i.bytes ++ mm :: rest) = .error .reservedPostbyte := by
  simp [bitIdx, hi]

theorem bitRelIdx_reserved (f : Ea → Byte → Byte → Instr) {i : Idx} (hi : i.isDirect = false) (mm rr : Byte)
    (rest : List Byte) : bitRelIdx f (i.bytes ++ mm :: rr :: rest) = .error .reservedPostbyte := by
  simp [bitRelIdx, hi]

/-! ### The opcodes of these forms (30_encoding.md R105, R106) -/

/-- BSET, BCLR, BRSET, BRCLR, LEAY, LEAX, LEAS, in the order of their opcodes. -/
theorem decode_indirect_reserved {i : Idx} (hi : i.isDirect = false) (p q : Byte) (rest : List Byte) :
    ∀ op ∈ [0x0C#8, 0x0D#8, 0x0E#8, 0x0F#8, 0x19#8, 0x1A#8, 0x1B#8],
      decode (op :: (i.bytes ++ p :: q :: rest)) = .error .reservedPostbyte := by
  simp only [List.forall_mem_cons]
  exact ⟨bitIdx_reserved .bset hi p _, bitIdx_reserved .bclr hi p _, bitRelIdx_reserved .brset hi p q rest,
    bitRelIdx_reserved .brclr hi p q rest, directIdx_reserved .leay hi _, directIdx_reserved .leax hi _,
    directIdx_reserved .leas hi _, nofun⟩

theorem decode_btas_reserved {i : Idx} (hi : i.isDirect = false) (mm : Byte) (rest : List Byte) :
    decode (0x18 :: 0x37 :: (i.bytes ++ mm :: rest)) = .error .reservedPostbyte := bitIdx_reserved .btas hi mm rest

/-- TBL and ETBL. -/
theorem decode_table_reserved {i : Idx} (hi : i.noExtension = false) (rest : List Byte) :
    ∀ op ∈ [0x3D#8, 0x3F#8], decode (0x18 :: op :: (i.bytes ++ rest)) = .error .reservedPostbyte := by
  simp only [List.forall_mem_cons]
  exact ⟨shortIdx_reserved .tbl hi rest, shortIdx_reserved .etbl hi rest, nofun⟩

/-- Settles O4: each opcode by the reader of its form, the classes of operands by the form's check. -/
theorem reservedPostbytesRefused : Obligations.ReservedPostbytesRefused :=
  ⟨fun _ rr rest h => loopPrimitive_reserved h rr rest,
    fun op _ _ p q rest hop => ⟨decode_indirect_reserved rfl p q rest op hop, decode_indirect_reserved rfl p q rest op hop⟩,
    fun _ _ p rest => ⟨decode_btas_reserved rfl p rest, decode_btas_reserved rfl p rest⟩,
    fun op _ _ _ rest hop => ⟨decode_table_reserved rfl rest op hop, decode_table_reserved rfl rest op hop,
      decode_table_reserved rfl rest op hop, decode_table_reserved rfl rest op hop⟩⟩

end Sys2Proof
end

section
/-! The effective address as a register's value (31_indexed_postbyte.md R150, 40_load_store_move.md R214 to R220). Settles O18. -/

namespace Sys2Proof.Machine

open Sys2Proof Sys2Proof.Safety

section Writers

variable {α : Type} {get : State → α} {set : State → α → State} {fields : List Field}

/-- The value is read back also with the condition codes as the write leaves them. -/
theorem Writer.get_set (w : Writer get set fields) (s : State) (v : α) : get (set s v) = v :=
  w.read s v (set s v).ccr

theorem Writer.keeps (w : Writer get set fields) (s : State) (v : α) : Keeps fields s (set s v) :=
  ⟨w.same s v, fun k _ => congrArg (Memory.read · k) (w.mem s v)⟩

end Writers

/-- All a load of an effective address does: the register is written last, over the index register's own update (R150). -/
theorem loadAddress_does {get : State → Word} {set : State → Word → State} {fields : List Field}
    (w : Writer get set fields) {i : Idx} (hi : i.isDirect = true) (s : State) :
    ∃ t, loadAddress set i s = .next t ∧ get t = i.addr s s.pc ∧ Keeps fields (i.update s) t :=
  ⟨set (i.update s) (i.addr s s.pc), if_pos hi, w.get_set _ _, w.keeps _ _⟩

/-- Settles O18: `loadAddress_does` for LEAS, LEAX, LEAY; the second names write a sum or a difference to their register. -/
theorem loadEffectiveAddress : Obligations.LoadEffectiveAddress :=
  ⟨fun _ s hi => ⟨loadAddress_does writer_sp hi s, loadAddress_does writer_x hi s, loadAddress_does writer_y hi s⟩,
    fun s => ⟨⟨_, rfl, toNat_add_zext8 s.x s.b, writer_x.keeps s _⟩, ⟨_, rfl, toNat_add_zext8 s.y s.b, writer_y.keeps s _⟩,
      ⟨_, rfl, rfl, writer_sp.keeps s _⟩, ⟨_, rfl, rfl, writer_sp.keeps s _⟩⟩⟩

end Sys2Proof.Machine
end

section
/-! Loads and stores of a register, logical and global, and moves (40_load_store_move.md R200, R207, R221, R229). Settles O16,
O17, O19 and O20. -/

namespace Sys2Proof.Machine

open Sys2Proof Sys2Proof.Safety

/-! ### Loads (40_load_store_move.md R200) -/

theorem loads8 {i : Src8 → Instr} {get : State → Byte} {set : State → Byte → State} {fields : List Field}
    (w : Writer get set fields) (hi : ∀ src s, exec (i src) s = .next (load8 set src s)) : Loads8 i get fields :=
  fun src s => ⟨load8 set src s, hi src s, load8_does w src s⟩

/-- A word of memory is its two bytes by definition (20_memory.md R62, R63). -/
theorem loads16 {i : Src16 → Instr} {get : State → Word} {set : State → Word → State} {fields : List Field}
    (w : Writer get set fields) (hi : ∀ src s, exec (i src) s = .next (load16 set src s)) : Loads16 i get fields :=
  ⟨fun src s => ⟨load16 set src s, hi src s, load16_does w src s⟩, fun _ _ => rfl⟩

/-- Settles O16: `load8_does` and `load16_does` for the writer of each register. -/
theorem loadsSetRegisterAndFlags : Obligations.LoadsSetRegisterAndFlags :=
  ⟨loads8 writer_a fun _ _ => rfl, loads8 writer_b fun _ _ => rfl, loads16 writer_d fun _ _ => rfl,
    loads16 writer_sp fun _ _ => rfl, loads16 writer_x fun _ _ => rfl, loads16 writer_y fun _ _ => rfl⟩

/-! ### Stores (40_load_store_move.md R207) -/

theorem stores8 {i : Ea → Instr} {get : State → Byte} (hi : ∀ ea s, exec (i ea) s = .next (store8 get ea s)) :
    Stores8 i get :=
  fun ea s hm => ⟨store8 get ea s, hi ea s, store8_does get ea s hm⟩

theorem stores16 {i : Ea → Instr} {get : State → Word} (hi : ∀ ea s, exec (i ea) s = .next (store16 get ea s)) :
    Stores16 i get :=
  fun ea s hm => ⟨store16 get ea s, hi ea s, store16_does get ea s hm⟩

/-- Settles O17: `store8_does` and `store16_does` for each register. -/
theorem storesWriteRegisterToMemory : Obligations.StoresWriteRegisterToMemory :=
  ⟨stores8 fun _ _ => rfl, stores8 fun _ _ => rfl, stores16 fun _ _ => rfl, stores16 fun _ _ => rfl,
    stores16 fun _ _ => rfl, stores16 fun _ _ => rfl⟩

/-! ### Global loads (40_load_store_move.md R221, 20_memory.md R72) -/

theorem globalLoads8 {i : Ea → Instr} {get : State → Byte} {set : State → Byte → State} {fields : List Field}
    (w : Writer get set fields) (hi : ∀ ea s, exec (i ea) s = .next (globalLoad8 set ea s)) :
    GlobalLoads8 i get fields :=
  fun ea s => ⟨globalLoad8 set ea s, hi ea s, globalLoad8_does w ea s⟩

/-- The flags are those of the word loaded, which the register holds in the end. -/
theorem globalLoads16 {i : Ea → Instr} {get : State → Word} {set : State → Word → State} {fields : List Field}
    (w : Writer get set fields) (hi : ∀ ea s, exec (i ea) s = .next (globalLoad16 set ea s)) :
    GlobalLoads16 i get fields := by
  intro ea s
  obtain ⟨hread, heffect⟩ := globalLoad16_does w ea s
  rw [← hread] at heffect
  exact ⟨globalLoad16 set ea s, hi ea s, hread, heffect⟩

/-! ### Global stores (40_load_store_move.md R221, 20_memory.md R72) -/

/-- A global byte store, then the condition codes. -/
theorem stores_globalWriteByte_setCcr (s : State) (ea : Word) (v c : Byte) (hm : MemoryForm s) :
    GlobalStoresByte [.ccr] s ((s.globalWriteByte ea v).setCcr c) ea v := by
  obtain ⟨hothers, hfields, hkept⟩ := stores_globalWriteByte s ea v hm
  exact ⟨hothers, sameExcept_trans hfields (sameExcept_setCcr _ c), hkept⟩

/-- All a global store of a byte does. -/
theorem globalStore8_does (get : State → Byte) (ea : Ea) (s : State) (hm : MemoryForm s) :
    GlobalStoresByte [.ccr] (ea.update s) (globalStore8 get ea s) (ea.addr s) (get (ea.update s)) ∧
    (FlagChange.nz (get (ea.update s)) (some false) none).Made s.ccr (globalStore8 get ea s).ccr := by
  refine ⟨stores_globalWriteByte_setCcr _ _ _ _ (memoryForm_update (by simp) hm), ?_⟩
  have h := made_logicFlags (get (ea.update s)) s.ccr
  simpa [globalStore8] using h

/-- All a global store of a word does: the high byte first, which leaves GPAGE alone. -/
theorem globalStore16_does (get : State → Word) (ea : Ea) (s : State) (hm : MemoryForm s) :
    (∃ m : State,
      GlobalStoresByte [] (ea.update s) m (ea.addr s) (hiByte (get (ea.update s))) ∧
      GlobalStoresByte [.ccr] m (globalStore16 get ea s) (ea.addr s + 1) (loByte (get (ea.update s)))) ∧
    (FlagChange.nz (get (ea.update s)) (some false) none).Made s.ccr (globalStore16 get ea s).ccr := by
  have hform : MemoryForm (ea.update s) := memoryForm_update (by simp) hm
  refine ⟨⟨(ea.update s).globalWriteByte (ea.addr s) (hiByte (get (ea.update s))),
    stores_globalWriteByte _ _ _ hform,
    stores_globalWriteByte_setCcr _ _ _ _ (State.wf_globalWriteByte _ _ _ hform)⟩, ?_⟩
  have h := made_logicFlags (get (ea.update s)) s.ccr
  simpa [globalStore16] using h

theorem globalStores8 {i : Ea → Instr} {get : State → Byte}
    (hi : ∀ ea s, exec (i ea) s = .next (globalStore8 get ea s)) : GlobalStores8 i get :=
  fun ea s hm => ⟨globalStore8 get ea s, hi ea s, globalStore8_does get ea s hm⟩

theorem globalStores16 {i : Ea → Instr} {get : State → Word}
    (hi : ∀ ea s, exec (i ea) s = .next (globalStore16 get ea s)) : GlobalStores16 i get :=
  fun ea s hm => ⟨globalStore16 get ea s, hi ea s, globalStore16_does get ea s hm⟩

/-- Settles O19: all that a global load and a global store do, for each register. -/
theorem globalLoadsAndStores : Obligations.GlobalLoadsAndStores :=
  ⟨globalLoads8 writer_a fun _ _ => rfl, globalLoads8 writer_b fun _ _ => rfl, globalLoads16 writer_d fun _ _ => rfl,
    globalLoads16 writer_sp fun _ _ => rfl, globalLoads16 writer_x fun _ _ => rfl, globalLoads16 writer_y fun _ _ => rfl,
    globalStores8 fun _ _ => rfl, globalStores8 fun _ _ => rfl, globalStores16 fun _ _ => rfl,
    globalStores16 fun _ _ => rfl, globalStores16 fun _ _ => rfl, globalStores16 fun _ _ => rfl⟩

/-! ### Moves (40_load_store_move.md R229, R230) -/

/-- The destination's address counts from PCnext, which the source's own update leaves alone. -/
theorem movb_stores (src : MoveSrc8) (dst : Xea) (s : State) (hm : MemoryForm s) :
    Completes (.movb src dst) s fun t =>
      StoresByte [] (dst.update (src.update s)) t (dst.addr (src.update s) s.pc) (src.value dst s) := by
  have hform : MemoryForm (dst.update (src.update s)) := memoryForm_update (by simp) hm
  rw [← MoveSrc8Update_pc src s]
  exact ⟨_, rfl, stores_writeByte _ _ _ hform⟩

theorem movw_stores (src : MoveSrc16) (dst : Xea) (s : State) (hm : MemoryForm s) :
    Completes (.movw src dst) s fun t =>
      StoresWord [] (dst.update (src.update s)) t (dst.addr (src.update s) s.pc) (src.value dst s) := by
  have hform : MemoryForm (dst.update (src.update s)) := memoryForm_update (by simp) hm
  rw [← MoveSrc16Update_pc src s]
  exact ⟨_, rfl, stores_writeWord _ _ _ hform⟩

/-- An extended destination has no postbyte, so its source counts from PCnext itself (R230). -/
theorem moveRef_ext (m : Word) (s : State) : (Xea.ext m).moveRef s = s.pc := BitVec.sub_zero s.pc

/-- A PC-relative source counts from PCnext less the destination's extension bytes (R230, 92 D8). -/
theorem moveSrc8_value_pcRelative (n : Word) (dst : Xea) (s : State) :
    (MoveSrc8.mem (.idx (.off16 .pc n))).value dst s = s.readByte (dst.moveRef s + n) := rfl

theorem moveSrc16_value_pcRelative (n : Word) (dst : Xea) (s : State) :
    (MoveSrc16.mem (.idx (.off16 .pc n))).value dst s = s.readWord (dst.moveRef s + n) := rfl

/-- Settles O20: the two moves, and PC-relative sources before destinations of zero, one and two extension bytes. -/
theorem movesCopySourceToDestination : Obligations.MovesCopySourceToDestination := by
  refine ⟨movb_stores, movw_stores, fun s n _ _ m => ⟨?_, moveSrc8_value_pcRelative n _ s,
    moveSrc16_value_pcRelative n _ s, moveSrc16_value_pcRelative n _ s⟩⟩
  rw [moveSrc8_value_pcRelative, moveRef_ext]

end Sys2Proof.Machine
end

section
/-! Transfer, exchange and sign-extend (41_transfer_exchange.md). A register code takes a word in one way, whatever instruction
brings it (R301, R302); each cell of the tables of TFR and EXG is such a taking, or two. Settles O23, O21 and O22. -/

namespace Sys2Proof.Machine

open Sys2Proof Sys2Proof.Safety

/-! ### Bytes and words (00_scope.md R13) -/

theorem toInt_sext8 (b : Byte) : (sext8 b).toInt = b.toInt := BitVec.toInt_signExtend_of_le (by decide)

/-- The sign extension of a byte has the byte as its low half. -/
@[simp] theorem loByte_sext8 (b : Byte) : loByte (sext8 b) = b := by
  rw [sext8, BitVec.signExtend_eq_append_of_le (by decide)]
  exact loByte_wordOf _ b

theorem zext8_eq_wordOf (b : Byte) : zext8 b = wordOf 0x00 b := BitVec.setWidth_eq_append (by decide)

theorem signWord_eq (w : Word) : signWord w = if w.toInt < 0 then 0xFFFF else 0x0000 := by
  simp [signWord, BitVec.msb_eq_toInt]

/-- The sign word before its word is the 32-bit sign extension (41_transfer_exchange.md R304). -/
theorem toInt_signWord_append (w : Word) : (signWord w ++ w : BitVec 32).toInt = w.toInt := by
  have h : (signWord w ++ w : BitVec 32) = w.signExtend 32 := by
    rw [BitVec.signExtend_eq_append_of_le (by decide), signWord]
    rfl
  rw [h, BitVec.toInt_signExtend_of_le (by decide)]

/-- IPL is written from bits 10 to 8 of a word (41_transfer_exchange.md R302). -/
theorem extractLsb'_hiByte (w : Word) : (hiByte w).extractLsb' 0 3 = w.extractLsb' 8 3 := by
  ext i hi
  simp [hiByte, BitVec.getElem_extractLsb', show i < 8 by omega]

/-! ### Registers -/

theorem writer_tmp1 : Writer State.tmp1 State.setTmp1 [] where
  read _ _ _ := rfl
  same := by intro s v f _; cases f <;> rfl
  ccr _ _ := rfl
  mem _ _ := rfl

theorem writer_tmp2 : Writer State.tmp2 State.setTmp2 [] where
  read _ _ _ := rfl
  same := by intro s v f _; cases f <;> rfl
  ccr _ _ := rfl
  mem _ _ := rfl

theorem writer_tmp3 : Writer State.tmp3 State.setTmp3 [] where
  read _ _ _ := rfl
  same := by intro s v f _; cases f <;> rfl
  ccr _ _ := rfl
  mem _ _ := rfl

theorem keeps_refl (s : State) : Keeps [] s s := ⟨sameExcept_refl _ s, fun _ _ => rfl⟩

theorem keeps_mono {fields more : List Field} {s t : State} (h : Keeps fields s t) (hsub : fields ⊆ more) :
    Keeps more s t :=
  ⟨sameExcept_mono h.1 fun _ hf => hsub hf, h.2⟩

/-- A register written besides what changed before. -/
theorem Writer.keeps_after {α : Type} {get : State → α} {set : State → α → State} {fields also : List Field}
    (w : Writer get set fields) {s t : State} (h : Keeps also s t) (v : α) : Keeps (fields ++ also) s (set t v) :=
  keeps_trans h (w.keeps t v)

/-! ### TAB, TBA, SEX and the second names (41_transfer_exchange.md R306, R310 to R319) -/

/-- All that TAB and TBA do, for the register they write. -/
theorem moveByte_does {get : State → Byte} {set : State → Byte → State} {fields : List Field}
    (w : Writer get set fields) (s : State) (v : Byte) :
    get ((set s v).setCcr (logicFlags v s.ccr)) = v ∧
    Effect fields (.nz v (some false) none) s ((set s v).setCcr (logicFlags v s.ccr)) := by
  obtain ⟨hsame, hmem⟩ := w.effect s v (logicFlags v s.ccr)
  exact ⟨w.read _ _ _, hsame, hmem, made_logicFlags v s.ccr⟩

/-- A register written and nothing else. -/
theorem Writer.does {α : Type} {get : State → α} {set : State → α → State} {fields : List Field}
    (w : Writer get set fields) (s : State) (v : α) : get (set s v) = v ∧ Keeps fields s (set s v) :=
  ⟨w.get_set s v, w.keeps s v⟩

/-- SEX into a word register through D (41_transfer_exchange.md R306). -/
theorem sexD_does (s : State) (b : Byte) : (s.setD (sext8 b)).d.toInt = b.toInt ∧ Keeps [.a, .b] s (s.setD (sext8 b)) :=
  ⟨by rw [State.setD_d, toInt_sext8], writer_d.keeps s _⟩

/-- Settles O23: each instruction writes one register, or D and another, by the writer of that register. -/
theorem registerMoves : Obligations.RegisterMoves := by
  intro s
  refine ⟨⟨_, rfl, moveByte_does writer_b s s.a⟩, ⟨_, rfl, moveByte_does writer_a s s.b⟩,
    fun src dst => ⟨_, rfl, sext8 (sexValue src s), (toInt_sext8 _).trans ?source, ?destination⟩,
    ⟨_, rfl, sexD_does s s.a⟩, ⟨_, rfl, sexD_does s s.b⟩, ⟨_, rfl, toInt_signWord_append s.d, writer_x.keeps s _⟩,
    ⟨_, rfl, toInt_signWord_append s.d, writer_y.keeps s _⟩, ⟨_, rfl, writer_a.does s _⟩, ⟨_, rfl, writer_x.does s _⟩,
    ⟨_, rfl, writer_y.does s _⟩, ⟨_, rfl, writer_sp.does s _⟩, ⟨_, rfl, writer_sp.does s _⟩,
    ⟨_, rfl, State.setD_d s s.x, rfl, keeps_mono (writer_x.keeps_after (writer_d.keeps s _) _) (by decide)⟩,
    ⟨_, rfl, State.setD_d s s.y, rfl, keeps_mono (writer_y.keeps_after (writer_d.keeps s _) _) (by decide)⟩⟩
  case source => cases src <;> rfl
  case destination =>
    cases dst with
    | tmp2 => exact writer_tmp2.does s _
    | d => exact writer_d.does s _
    | x => exact writer_x.does s _
    | y => exact writer_y.does s _
    | sp => exact writer_sp.does s _

end Sys2Proof.Machine
end

section
/-! TFR of both sets (41_transfer_exchange.md R303 to R305): every cell of a column writes the column's register with the word of
its row's source. Settles O21. -/

namespace Sys2Proof.Machine

open Sys2Proof Sys2Proof.Safety

/-! ### Codes (41_transfer_exchange.md R301) -/

/-- The register that a code names takes a word: an 8-bit register its low byte, CCR under R302, where `high` makes CCR the
word CCRW; `setTmp` writes the TMP register of that side.  What this leaves is `TakesWord`. -/
def takeWord (high : Bool) (setTmp : State → Word → State) (c : RegCode) (t : State) (w : Word) : State :=
  match c with
  | .a => t.setA (loByte w)
  | .b => t.setB (loByte w)
  | .ccr => if high then t.writeCcrw w else t.writeCcr (loByte w)
  | .tmp => setTmp t w
  | .d => t.setD w
  | .x => t.setX w
  | .y => t.setY w
  | .sp => t.setSp w

/-- Reading a TMP register uses a free value (10_state.md R36; log 5). -/
def touchCode (c : RegCode) (s : State) : State :=
  match c with
  | .tmp => s.useFree
  | .a | .b | .ccr | .d | .x | .y | .sp => s

theorem useFree_keeps (s : State) : Keeps [.free] s s.useFree := by
  refine ⟨fun f hf => ?_, fun _ _ => rfl⟩
  cases f with
  | free => exact absurd hf (by simp)
  | _ => rfl

theorem touchCode_keeps (c : RegCode) (s : State) : Keeps [.free] s (touchCode c s) := by
  cases c with
  | tmp => exact useFree_keeps s
  | _ => exact keeps_mono (keeps_refl s) (by simp)

@[simp] theorem touchCode_ccr (c : RegCode) (s : State) : (touchCode c s).ccr = s.ccr := by cases c <;> rfl
@[simp] theorem touchCode_ipl (c : RegCode) (s : State) : (touchCode c s).ipl = s.ipl := by cases c <;> rfl

theorem touchCode_of_ne {c : RegCode} (h : c ≠ .tmp) (s : State) : touchCode c s = s := by
  cases c with
  | tmp => exact absurd rfl h
  | _ => rfl

/-! ### Sources -/

/-- The word that a source code gives: A and B sign-extended, a free value for a TMP register, `ccr` for the condition codes. -/
def sourceWord (ccr : Word) (src : RegCode) (s : State) : Word :=
  match src with
  | .a => sext8 s.a
  | .b => sext8 s.b
  | .ccr => ccr
  | .tmp => s.freeWord
  | .d => s.d
  | .x => s.x
  | .y => s.y
  | .sp => s.sp

theorem lowSource_touch (src : RegCode) (s : State) : (lowSource src).touch s = touchCode src s := by cases src <;> rfl
theorem highSource_touch (src : RegCode) (s : State) : (highSource src).touch s = touchCode src s := by cases src <;> rfl

theorem lowSource_read {ccr : Word} {s : State} (hccr : loByte ccr = s.ccr) (src : RegCode) :
    (lowSource src).read s = loByte (sourceWord ccr src s) := by
  cases src with
  | a | b => exact (loByte_sext8 _).symm
  | ccr => exact hccr.symm
  | d => exact (loByte_wordOf _ _).symm
  | _ => rfl

/-- The high byte of a word source, but B for D (41_transfer_exchange.md R304: column A). -/
theorem highSource_read {src : RegCode} (ha : src ≠ .a) (hb : src ≠ .b) (s : State) :
    (highSource src).read s = if src = .d then s.b else hiByte (sourceWord s.ccrw src s) := by
  cases src with
  | a => exact absurd rfl ha
  | b => exact absurd rfl hb
  | ccr => exact (hiByte_wordOf _ _).symm
  | _ => rfl

/-! ### The tables by columns -/

theorem transferByte_run (src dst : ByteLoc) (s : State) :
    (Transfer.byte src dst).run s = dst.write (src.touch s) (src.read s) := rfl

theorem wideTransfer_run (src : RegCode) (dst : WordLoc) (s : State) :
    (wideTransfer src dst).run s = dst.write (touchCode src s) (sourceWord (sext8 s.ccr) src s) := by
  cases src <;> rfl

/-- A column of the extended set for the word sources: the cell of D is the column's own. -/
theorem wordTransfer_run {src : RegCode} (ha : src ≠ .a) (hb : src ≠ .b) {tmp : WordLoc}
    (htmp : tmp = .tmp1 ∨ tmp = .tmp3) (dst : WordLoc) (fromA fromB fromD : Transfer) (s : State) :
    (wordTransfer src dst fromA fromB fromD tmp).run s =
      if src = .d then fromD.run s else dst.write (touchCode src s) (sourceWord s.ccrw src s) := by
  cases src with
  | a => exact absurd rfl ha
  | b => exact absurd rfl hb
  | tmp => rcases htmp with rfl | rfl <;> rfl
  | _ => rfl

/-- The columns of the extended set in which D is a word source as any other. -/
theorem wordTransfer_run_word {src : RegCode} (ha : src ≠ .a) (hb : src ≠ .b) {tmp : WordLoc}
    (htmp : tmp = .tmp1 ∨ tmp = .tmp3) (dst : WordLoc) (fromA fromB : Transfer) (s : State) :
    (wordTransfer src dst fromA fromB (.word .d dst) tmp).run s =
      dst.write (touchCode src s) (sourceWord s.ccrw src s) := by
  rw [wordTransfer_run ha hb htmp]
  split
  next h => subst h; rfl
  next => rfl

/-- The columns X and Y of the extended set: D gives its sign word (41_transfer_exchange.md R304). -/
theorem wordTransfer_run_sign {src : RegCode} (ha : src ≠ .a) (hb : src ≠ .b) (dst : WordLoc) (fromA fromB : Transfer)
    (s : State) : (wordTransfer src dst fromA fromB (.signD dst) .tmp3).run s = dst.write (touchCode src s)
      (if src = .d then (if (sourceWord s.ccrw src s).toInt < 0 then 0xFFFF else 0x0000) else sourceWord s.ccrw src s) := by
  rw [wordTransfer_run ha hb (.inr rfl)]
  split
  next h => subst h; exact congrArg (dst.write s) (signWord_eq s.d)
  next => rfl

/-- The original set (41_transfer_exchange.md R303). -/
theorem transferOriginal_run (src dst : RegCode) (s : State) : (transferCase false src dst).run s =
    takeWord false State.setTmp2 dst (touchCode src s) (sourceWord (sext8 s.ccr) src s) := by
  have hlow (l : ByteLoc) : (Transfer.byte (lowSource src) l).run s =
      l.write (touchCode src s) (loByte (sourceWord (sext8 s.ccr) src s)) := by
    rw [transferByte_run, lowSource_touch, lowSource_read (loByte_sext8 s.ccr)]
  cases dst with
  | a => exact hlow .a
  | b => exact hlow .b
  | ccr => exact hlow .ccrl
  | tmp => exact wideTransfer_run src .tmp2 s
  | d => exact wideTransfer_run src .d s
  | x => exact wideTransfer_run src .x s
  | y => exact wideTransfer_run src .y s
  | sp => exact wideTransfer_run src .sp s

theorem completes_tfr {extended : Bool} {src dst : RegCode} {s : State} {P : State → Prop}
    (h : P ((transferCase extended src dst).run s)) : Completes (.tfr extended src dst) s P := ⟨_, rfl, h⟩

/-- Settles O21: the source's word by rows, what is left of the state by columns, the writer of each register. -/
theorem transfers : Obligations.Transfers := by
  refine ⟨fun src dst s => completes_tfr ⟨sourceWord (sext8 s.ccr) src s, ?word, ?taken, ?free⟩,
    fun src dst s ha hb => completes_tfr ⟨sourceWord s.ccrw src s, ?wordHigh, ?takenHigh⟩,
    fun dst s => completes_tfr ?fromA, fun dst s => completes_tfr ?fromB⟩
  case word =>
    cases src with
    | a | b | ccr => exact toInt_sext8 _
    | tmp => trivial
    | _ => rfl
  case taken =>
    have ht := touchCode_keeps src s
    rw [transferOriginal_run]
    cases dst with
    | a => exact ⟨rfl, writer_a.keeps_after ht _⟩
    | b => exact ⟨rfl, writer_b.keeps_after ht _⟩
    | ccr => exact writesCcr_writeCcr ht (touchCode_ccr src s) _
    | tmp => exact ⟨rfl, writer_tmp2.keeps_after ht _⟩
    | d => exact ⟨wordOf_hi_lo _, writer_d.keeps_after ht _⟩
    | x => exact ⟨rfl, writer_x.keeps_after ht _⟩
    | y => exact ⟨rfl, writer_y.keeps_after ht _⟩
    | sp => exact ⟨rfl, writer_sp.keeps_after ht _⟩
  case free =>
    intro hsrc
    rw [transferOriginal_run, touchCode_of_ne hsrc]
    cases dst <;> rfl
  case wordHigh =>
    cases src with
    | a | b | tmp => trivial
    | _ => rfl
  case takenHigh =>
    have ht := touchCode_keeps src s
    cases dst with
    | a => exact ⟨highSource_read ha hb s, writer_a.keeps_after (highSource_touch src s ▸ ht) _⟩
    | b => exact ⟨lowSource_read (loByte_wordOf _ _) src, writer_b.keeps_after (lowSource_touch src s ▸ ht) _⟩
    | ccr =>
      rw [transferCase, if_pos rfl, wordTransfer_run_word ha hb (.inr rfl)]
      obtain ⟨hbits, hdelay, hkeeps⟩ := writesCcr_writeCcrw ht (touchCode_ccr src s) (sourceWord s.ccrw src s)
      exact ⟨extractLsb'_hiByte _, hbits, hdelay, keeps_mono hkeeps (by decide)⟩
    | tmp =>
      by_cases hd : src = .d
      · subst hd
        exact ⟨rfl, writer_tmp1.keeps_after ht _⟩
      · rw [transferCase, if_pos rfl, wordTransfer_run ha hb (.inr rfl), if_neg hd]
        exact ⟨(if_neg hd).mpr rfl, writer_tmp2.keeps_after ht _⟩
    | d =>
      rw [transferCase, if_pos rfl, wordTransfer_run_word ha hb (.inl rfl)]
      exact ⟨wordOf_hi_lo _, writer_d.keeps_after ht _⟩
    | x =>
      rw [transferCase, if_pos rfl, wordTransfer_run_sign ha hb]
      exact ⟨rfl, writer_x.keeps_after ht _⟩
    | y =>
      rw [transferCase, if_pos rfl, wordTransfer_run_sign ha hb]
      exact ⟨rfl, writer_y.keeps_after ht _⟩
    | sp =>
      rw [transferCase, if_pos rfl, wordTransfer_run_word ha hb (.inr rfl)]
      exact ⟨rfl, writer_sp.keeps_after ht _⟩
  case fromA =>
    cases dst with
    | a => exact keeps_refl s
    | b => exact writer_b.does s s.a
    | ccr => exact ⟨rfl, writeCcrh_keeps s s.a⟩
    | tmp => exact writer_tmp2.does s _
    | d => exact sexD_does s s.a
    | x => exact writer_x.does s _
    | y => exact writer_y.does s _
    | sp => exact writer_sp.does s _
  case fromB =>
    cases dst with
    | a => exact writer_a.does s s.b
    | b => exact keeps_refl s
    | ccr => exact writesCcr_writeCcr (keeps_refl s) rfl s.b
    | tmp => exact writer_tmp2.does s _
    | d => exact sexD_does s s.b
    | x => exact writer_x.does s _
    | y => exact writer_y.does s _
    | sp => exact writer_sp.does s _

end Sys2Proof.Machine
end

section
/-! EXG of both sets (41_transfer_exchange.md R307 to R309): both registers are read, then each takes a word made of the other's.
Settles O22. -/

namespace Sys2Proof.Machine

open Sys2Proof Sys2Proof.Safety

/-! ### One register takes a word -/

section Taking

variable {high : Bool} {get : State → Word} {set : State → Word → State} {fields : List Field} {s t u : State} {w : Word}

theorem takeWord_keeps (hw : Writer get set []) (c : RegCode) (t : State) (w : Word) :
    Keeps (codeFields c) t (takeWord high set c t w) := by
  cases c with
  | a => exact writer_a.keeps t _
  | b => exact writer_b.keeps t _
  | ccr =>
    have h := writeCcr_keeps t (loByte w)
    cases high with
    | false => exact keeps_mono h (by decide)
    | true => exact keeps_mono (keeps_trans h (writeCcrh_keeps _ (hiByte w))) (by decide)
  | tmp => exact hw.keeps t w
  | d => exact writer_d.keeps t w
  | x => exact writer_x.keeps t w
  | y => exact writer_y.keeps t w
  | sp => exact writer_sp.keeps t w

/-- The word taken is there; CCR takes it under the X rule, which looks at the codes from before. -/
theorem takesWord_takeWord (hw : Writer get set []) {c : RegCode} (hccr : c = .ccr → t.ccr = s.ccr ∧ t.ipl = s.ipl)
    (w : Word) : TakesWord high get s (takeWord high set c t w) w c := by
  cases c with
  | ccr =>
    obtain ⟨hc, hi⟩ := hccr rfl
    obtain ⟨hbits, hdelay, -⟩ := writesCcr_writeCcr (keeps_refl t) rfl (loByte w)
    have hlow (k : Nat) (hk : k < 8) : (loByte w).getLsbD k = w.getLsbD k := by
      simp [loByte, hk]
    have hall (k : Nat) (hk : k < 8) : (t.writeCcr (loByte w)).ccr.getLsbD k =
        (w.getLsbD k && (decide (k ≠ 6) || s.ccr.getLsbD 6)) := by rw [hbits k hk, hlow k hk, hc]
    rw [hlow 4 (by decide), hc] at hdelay
    cases high with
    | false => exact ⟨hall, hdelay, hi⟩
    | true => exact ⟨hall, hdelay, extractLsb'_hiByte w⟩
  | tmp => exact hw.get_set t w
  | d => exact wordOf_hi_lo w
  | _ => rfl

/-- A later write of other registers leaves the word taken. -/
theorem takesWord_of_keeps {c : RegCode} (h : TakesWord high get s t w c) (hk : Keeps fields t u)
    (hget : get u = get t) (hdisj : ∀ f ∈ codeFields c, f ∉ fields) : TakesWord high get s u w c := by
  have same (f : Field) (hf : f ∈ codeFields c) : f.Same t u := hk.1 f (hdisj f hf)
  cases c with
  | a => exact (same .a (by decide)).trans h
  | b => exact (same .b (by decide)).trans h
  | ccr =>
    obtain ⟨hbits, hdelay, hipl⟩ := h
    have hccr : u.ccr = t.ccr := same .ccr (by decide)
    exact ⟨hccr ▸ hbits, (same .iDelay (by decide)).trans hdelay, (same .ipl (by decide)).trans hipl⟩
  | tmp => exact hget.trans h
  | d =>
    have ha : u.a = t.a := same .a (by decide)
    have hb : u.b = t.b := same .b (by decide)
    exact (congrArg₂ _ ha hb).trans h
  | x => exact (same .x (by decide)).trans h
  | y => exact (same .y (by decide)).trans h
  | sp => exact (same .sp (by decide)).trans h

/-- The TMP register of a side matters to the code of TMP alone. -/
theorem takesWord_congr {get' : State → Word} {c : RegCode} (hc : c ≠ .tmp) (h : TakesWord high get s t w c) :
    TakesWord high get' s t w c := by
  cases c with
  | tmp => exact absurd rfl hc
  | _ => exact h

end Taking

/-- The X rule holds nothing back from the codes themselves. -/
theorem xRule_self (v : Byte) : xRule v v = v := by
  revert v
  decide

/-! ### Two registers take words -/

/-- Both registers are read, the first takes `v`, then the second takes `w`. -/
def takeBoth (high : Bool) (set₁ set₂ : State → Word → State) (p q : RegCode) (s : State) (v w : Word) : State :=
  takeWord high set₂ q (takeWord high set₁ p (touchCode q (touchCode p s)) v) w

/-- The two codes name one register, which takes the word it had, or registers that do not overlap. -/
def Separate (p q : RegCode) : Prop := (∀ f ∈ codeFields p, f ∉ codeFields q) ∨ (p = q ∧ p ≠ .tmp)

/-- Of the registers only D overlaps others: A and B. -/
theorem separate_of_not_half {p q : RegCode} (hp : p = .d → q ≠ .a ∧ q ≠ .b) (hq : q = .d → p ≠ .a ∧ p ≠ .b) :
    Separate p q := by
  unfold Separate
  revert hp hq
  cases p <;> cases q <;> decide

section TakingBoth

variable {high : Bool} {get₁ get₂ : State → Word} {set₁ set₂ : State → Word → State} {p q : RegCode}

theorem touchBoth_keeps (p q : RegCode) (s : State) : Keeps [.free] s (touchCode q (touchCode p s)) :=
  keeps_mono (keeps_trans (touchCode_keeps p s) (touchCode_keeps q _)) (by decide)

theorem takeBoth_keeps (h₁ : Writer get₁ set₁ []) (h₂ : Writer get₂ set₂ []) (s : State) (v w : Word) :
    Keeps (.free :: (codeFields p ++ codeFields q)) s (takeBoth high set₁ set₂ p q s v w) :=
  keeps_mono (keeps_trans (keeps_trans (touchBoth_keeps p q s) (takeWord_keeps h₁ p _ v)) (takeWord_keeps h₂ q _ w))
    fun f hf => by simp only [List.mem_append, List.mem_cons, List.not_mem_nil] at hf ⊢; tauto

theorem free_not_mem_codeFields (c : RegCode) : Field.free ∉ codeFields c := by cases c <;> decide

/-- No free value is used where no TMP register is read. -/
theorem takeBoth_free (h₁ : Writer get₁ set₁ []) (h₂ : Writer get₂ set₂ []) (s : State) (v w : Word) (hp : p ≠ .tmp)
    (hq : q ≠ .tmp) : (takeBoth high set₁ set₂ p q s v w).free = s.free := by
  rw [takeBoth, touchCode_of_ne hp, touchCode_of_ne hq]
  exact ((takeWord_keeps h₂ q _ w).1 .free (free_not_mem_codeFields q)).trans
    ((takeWord_keeps h₁ p s v).1 .free (free_not_mem_codeFields p))

/-- The second write meets the condition codes of before: the first wrote another register, or CCR what it held. -/
theorem ccr_of_takeWord (h₁ : Writer get₁ set₁ []) {s t : State} {v : Word} (hc : t.ccr = s.ccr) (hi : t.ipl = s.ipl)
    (hsep : Separate p .ccr) (hown : p = .ccr → loByte v = s.ccr ∧ (high = true → v.extractLsb' 8 3 = s.ipl)) :
    (takeWord high set₁ p t v).ccr = s.ccr ∧ (takeWord high set₁ p t v).ipl = s.ipl := by
  rcases hsep with hdisj | ⟨rfl, -⟩
  · have same (f : Field) (hf : f ∈ codeFields .ccr) : f.Same t (takeWord high set₁ p t v) :=
      (takeWord_keeps h₁ p t v).1 f fun hp => hdisj f hp hf
    exact ⟨(same .ccr (by decide)).trans hc, (same .ipl (by decide)).trans hi⟩
  · obtain ⟨hlow, hhigh⟩ := hown rfl
    have hccr : (t.writeCcr (loByte v)).ccr = s.ccr := by rw [State.writeCcr_ccr, hlow, hc, xRule_self]
    cases high with
    | false => exact ⟨hccr, hi⟩
    | true => exact ⟨hccr, (extractLsb'_hiByte v).trans (hhigh rfl)⟩

/-- Both words are there in the end: the second write spares the first register, or brings it the same word. -/
theorem takesWord_takeBoth (h₁ : Writer get₁ set₁ []) (h₂ : Writer get₂ set₂ [])
    (hget : ∀ t w, get₁ (takeWord high set₂ q t w) = get₁ t) (hsep : Separate p q) (s : State) {v w : Word}
    (hsame : p = q → p ≠ .tmp → v = w)
    (hown : p = .ccr → q = .ccr → loByte v = s.ccr ∧ (high = true → v.extractLsb' 8 3 = s.ipl)) :
    TakesWord high get₁ s (takeBoth high set₁ set₂ p q s v w) v p ∧
    TakesWord high get₂ s (takeBoth high set₁ set₂ p q s v w) w q := by
  have hc : (touchCode q (touchCode p s)).ccr = s.ccr := by simp
  have hi : (touchCode q (touchCode p s)).ipl = s.ipl := by simp
  have second : TakesWord high get₂ s (takeBoth high set₁ set₂ p q s v w) w q :=
    takesWord_takeWord h₂ (by rintro rfl; exact ccr_of_takeWord h₁ hc hi hsep fun hp => hown hp rfl) w
  refine ⟨?_, second⟩
  rcases hsep with hdisj | ⟨rfl, htmp⟩
  · exact takesWord_of_keeps (takesWord_takeWord h₁ (fun _ => ⟨hc, hi⟩) v) (takeWord_keeps h₂ q _ w) (hget _ w) hdisj
  · rw [hsame rfl htmp] at second ⊢
    exact takesWord_congr htmp second

end TakingBoth

/-! ### The tables as such writes -/

/-- What the second write of a word is in the original set: a word register takes B or CCR behind $FF (41 R307). -/
def filledWord (p q : RegCode) (w : Word) : Word :=
  match q with
  | .b | .ccr => if p = .tmp ∨ p = .x ∨ p = .y ∨ p = .sp ∨ p = .d then 0xFF00#16 ||| w else w
  | .a | .tmp | .d | .x | .y | .sp => w

/-- The word of a code does not depend on the free value but for a TMP register. -/
theorem exchangeWord_congr {c : RegCode} (hc : c ≠ .tmp) (s : State) (tmp tmp' ccr : Word) :
    exchangeWord s tmp ccr c = exchangeWord s tmp' ccr c := by
  cases c with
  | tmp => exact absurd rfl hc
  | _ => rfl

theorem filledWord_self (c : RegCode) (w : Word) : filledWord c c w = w := by cases c <;> rfl

theorem or_wordOf_zero (v : Byte) : 0xFF00#16 ||| wordOf 0x00 v = wordOf 0xFF v := by
  revert v
  decide

/-! A byte register as a word of the exchange, and D's low byte: the forms in which `loByte_wordOf` reads them. -/

theorem exchangeWord_a (s : State) (tmp ccr : Word) : exchangeWord s tmp ccr .a = wordOf 0x00 s.a := rfl
theorem exchangeWord_b (s : State) (tmp ccr : Word) : exchangeWord s tmp ccr .b = wordOf 0x00 s.b := rfl
theorem exchangeWord_ccr (s : State) (tmp ccr : Word) : exchangeWord s tmp ccr .ccr = ccr := rfl
theorem exchangeWord_d (s : State) (tmp ccr : Word) : exchangeWord s tmp ccr .d = wordOf s.a s.b := rfl

theorem intoD_run (l : ByteLoc) (s : State) : (Exchange.intoD l).run s = s.setD (wordOf 0x00 (l.read s)) := by
  rw [← zext8_eq_wordOf]
  rfl

theorem setD_wordOf (s : State) (hi lo : Byte) : s.setD (wordOf hi lo) = (s.setA hi).setB lo := by
  rw [State.setD, hiByte_wordOf, loByte_wordOf]

/-- The original set (41_transfer_exchange.md R307).  A word register beside another or behind a byte register is written as the
table writes it; the other cells read the low byte of a word built for the statement. -/
theorem exchangeOriginal_run (p q : RegCode) (s : State) : (exchangeCase false p q).run s =
    takeBoth false State.setTmp3 State.setTmp2 p q s
      (filledWord p q (exchangeWord s (touchCode p s).freeWord (wordOf 0x00 s.ccr) q))
      (exchangeWord s s.freeWord (wordOf 0x00 s.ccr) p) := by
  cases p with
  | a | b =>
    cases q with
    | a | b | ccr =>
      simp only [takeBoth, takeWord, filledWord, exchangeWord_a, exchangeWord_b, exchangeWord_ccr, loByte_wordOf,
        reduceCtorEq, or_self, if_false, Bool.false_eq_true]
      rfl
    | d => exact intoD_run _ s
    | _ => rfl
  | ccr =>
    cases q with
    | a | b | ccr | d =>
      simp only [takeBoth, takeWord, filledWord, exchangeWord_a, exchangeWord_b, exchangeWord_ccr, exchangeWord_d,
        loByte_wordOf, reduceCtorEq, or_self, if_false, Bool.false_eq_true]
      rfl
    | _ => rfl
  | d =>
    cases q with
    | a | b =>
      simp only [takeBoth, takeWord, filledWord, exchangeWord_a, exchangeWord_b, exchangeWord_d, or_wordOf_zero,
        loByte_wordOf, State.setD, hiByte_wordOf, or_true, if_true]
      rfl
    | ccr =>
      simp only [takeBoth, takeWord, filledWord, exchangeWord_ccr, exchangeWord_d, or_wordOf_zero, loByte_wordOf,
        or_true, if_true, if_false, Bool.false_eq_true]
      rfl
    | _ => rfl
  | tmp | x | y | sp =>
    cases q with
    | b | ccr =>
      simp only [filledWord, exchangeWord_b, exchangeWord_ccr, or_wordOf_zero, true_or, or_true, if_true]
      rfl
    | _ => rfl

/-- The TMP registers of the extended set: beside D it is TMP1 (41_transfer_exchange.md R308). -/
theorem writer_tmpBesideD (c : RegCode) {get : State → Word} {set : State → Word → State} (h : Writer get set []) :
    Writer (if c = .d then State.tmp1 else get) (if c = .d then State.setTmp1 else set) [] := by
  split
  · exact writer_tmp1
  · exact h

/-- The second operand's write leaves the TMP register of the first alone, in the original set. -/
theorem takeWord_tmp3 (q : RegCode) (t : State) (w : Word) : (takeWord false State.setTmp2 q t w).tmp3 = t.tmp3 := by
  cases q <;> rfl

/-- The same in the extended set. -/
theorem takeWord_tmpBesideD (p q : RegCode) (t : State) (w : Word) :
    (if q = .d then State.tmp1 else State.tmp3) (takeWord true (if p = .d then State.setTmp1 else State.setTmp2) q t w) =
      (if q = .d then State.tmp1 else State.tmp3) t := by
  cases q with
  | tmp => cases p <;> rfl
  | _ => rfl

theorem ccrw_ipl (s : State) : s.ccrw.extractLsb' 8 3 = s.ipl := by
  rw [← extractLsb'_hiByte, State.ccrw, hiByte_wordOf]
  exact BitVec.extractLsb'_append_eq_right

/-- The words of the extended set (41_transfer_exchange.md R308). -/
theorem exchangeWords_run {p q : RegCode} (hp : p ≠ .a ∧ p ≠ .b) (hq : q ≠ .a ∧ q ≠ .b) (s : State) :
    (exchangeCase true p q).run s = takeBoth true (if q = .d then State.setTmp1 else State.setTmp3)
      (if p = .d then State.setTmp1 else State.setTmp2) p q s
      (exchangeWord s (touchCode p s).freeWord s.ccrw q) (exchangeWord s s.freeWord s.ccrw p) := by
  cases p with
  | a => exact absurd rfl hp.1
  | b => exact absurd rfl hp.2
  | _ =>
    cases q with
    | a => exact absurd rfl hq.1
    | b => exact absurd rfl hq.2
    | _ => rfl

/-! ### Halves (41_transfer_exchange.md R308: rows and columns A and B) -/

theorem swapsHigh_ofA {c : RegCode} (ha : c ≠ .a) (hb : c ≠ .b) (hd : c ≠ .d) (s : State) :
    SwapsHigh State.tmp2 s ((exchangeCase true .a c).run s) c := by
  cases c with
  | a => exact absurd rfl ha
  | b => exact absurd rfl hb
  | d => exact absurd rfl hd
  | ccr => exact ⟨rfl, rfl, keeps_mono (keeps_trans (writer_a.keeps s _) (writeCcrh_keeps _ s.a)) (by decide)⟩
  | tmp =>
    have ha := writer_a.keeps_after (useFree_keeps s) (hiByte s.freeWord)
    exact ⟨rfl, writer_tmp2.keeps_after ha _⟩
  | x => exact ⟨rfl, rfl, keeps_mono (writer_x.keeps_after (writer_a.keeps s _) _) (by decide)⟩
  | y => exact ⟨rfl, rfl, keeps_mono (writer_y.keeps_after (writer_a.keeps s _) _) (by decide)⟩
  | sp => exact ⟨rfl, rfl, keeps_mono (writer_sp.keeps_after (writer_a.keeps s _) _) (by decide)⟩

/-- The same exchange named the other way round; the TMP register is the one of the first operand. -/
theorem swapsHigh_toA {c : RegCode} (ha : c ≠ .a) (hb : c ≠ .b) (hd : c ≠ .d) (s : State) :
    SwapsHigh State.tmp3 s ((exchangeCase true c .a).run s) c := by
  have h := swapsHigh_ofA ha hb hd s
  cases c with
  | tmp => exact ⟨rfl, writer_a.keeps_after (writer_tmp3.keeps_after (useFree_keeps s) _) _⟩
  | _ => exact h

theorem swapsLow_ofB {c : RegCode} (ha : c ≠ .a) (hb : c ≠ .b) (hd : c ≠ .d) (s : State) :
    SwapsLow State.tmp2 s ((exchangeCase true .b c).run s) c := by
  cases c with
  | a => exact absurd rfl ha
  | b => exact absurd rfl hb
  | d => exact absurd rfl hd
  | ccr =>
    obtain ⟨hbits, hdelay, hkeeps⟩ := writesCcr_writeCcr (writer_b.keeps s s.ccr) rfl s.b
    exact ⟨rfl, hbits, hdelay, keeps_mono hkeeps (by decide)⟩
  | tmp => exact ⟨rfl, writer_tmp2.keeps_after (writer_b.keeps_after (useFree_keeps s) _) _⟩
  | x => exact ⟨rfl, rfl, keeps_mono (writer_x.keeps_after (writer_b.keeps s _) _) (by decide)⟩
  | y => exact ⟨rfl, rfl, keeps_mono (writer_y.keeps_after (writer_b.keeps s _) _) (by decide)⟩
  | sp => exact ⟨rfl, rfl, keeps_mono (writer_sp.keeps_after (writer_b.keeps s _) _) (by decide)⟩

theorem swapsLow_toB {c : RegCode} (ha : c ≠ .a) (hb : c ≠ .b) (hd : c ≠ .d) (s : State) :
    SwapsLow State.tmp3 s ((exchangeCase true c .b).run s) c := by
  have h := swapsLow_ofB ha hb hd s
  cases c with
  | tmp => exact ⟨rfl, writer_b.keeps_after (writer_tmp3.keeps_after (useFree_keeps s) _) _⟩
  | _ => exact h

theorem completes_exg {extended : Bool} {p q : RegCode} {s : State} {P : State → Prop}
    (h : P ((exchangeCase extended p q).run s)) : Completes (.exg extended p q) s P := ⟨_, rfl, h⟩

/-- Settles O22: the tables as writes of two words (`takesWord_takeBoth`), the halves and the cells of D with A and B apart. -/
theorem exchanges : Obligations.Exchanges := by
  refine ⟨fun p q s => completes_exg ?original, fun p q s => completes_exg ?extended⟩
  case original =>
    rw [exchangeOriginal_run]
    refine ⟨takeBoth_keeps writer_tmp3 writer_tmp2 s _ _, takeBoth_free writer_tmp3 writer_tmp2 s _ _, s.freeWord,
      (touchCode p s).freeWord, ?_⟩
    intro word
    split
    case h_1 => exact ⟨loByte_wordOf _ _, loByte_wordOf _ _⟩
    case h_2 => exact ⟨hiByte_wordOf _ _, loByte_wordOf _ _⟩
    case h_3 => exact ⟨hiByte_wordOf _ _, loByte_wordOf _ _⟩
    case h_4 => exact ⟨(congrArg hiByte (or_wordOf_zero s.b)).trans (hiByte_wordOf _ _), loByte_wordOf _ _⟩
    case h_5 hda had hbd hdb =>
      have hsep : Separate p q :=
        separate_of_not_half (fun hp => ⟨hda hp, hdb hp⟩) fun hq => ⟨fun hp => had hp hq, fun hp => hbd hp hq⟩
      refine takesWord_takeBoth writer_tmp3 writer_tmp2 (takeWord_tmp3 q) hsep s ?_ ?_
      · rintro rfl hp
        rw [filledWord_self, exchangeWord_congr hp]
      · rintro rfl rfl
        exact ⟨loByte_wordOf _ _, nofun⟩
  case extended =>
    split
    case h_1 => exact keeps_refl s
    case h_2 => exact keeps_refl s
    case h_3 => exact ⟨rfl, rfl, keeps_mono (writer_b.keeps_after (writer_a.keeps s _) _) (by decide)⟩
    case h_4 => exact ⟨rfl, rfl, keeps_mono (writer_b.keeps_after (writer_a.keeps s _) _) (by decide)⟩
    case h_5 => exact ⟨rfl, rfl, keeps_mono (writer_b.keeps_after (writer_a.keeps s _) _) (by decide)⟩
    case h_6 =>
      rw [show (exchangeCase true .a .d).run s = s.setD (wordOf 0x00 s.a) from intoD_run .a s]
      exact ⟨hiByte_wordOf _ _, loByte_wordOf _ _, writer_d.keeps s _⟩
    case h_7 =>
      rw [show (exchangeCase true .b .d).run s = s.setD (wordOf 0x00 s.b) from intoD_run .b s]
      exact ⟨hiByte_wordOf _ _, loByte_wordOf _ _, setD_wordOf s _ _ ▸ writer_a.keeps s 0x00⟩
    case h_8 => exact ⟨rfl, rfl, writer_a.keeps s _⟩
    case h_9 ha hb hd => exact swapsHigh_ofA ha hb hd s
    case h_10 hb ha hd => exact swapsLow_ofB ha hb hd s
    case h_11 ha hb hd => exact swapsHigh_toA ha hb hd s
    case h_12 hb ha hd => exact swapsLow_toB ha hb hd s
    case h_13 hpa hpb hqa hqb _ _ _ _ _ _ _ _ =>
      rw [exchangeWords_run ⟨hpa, hpb⟩ ⟨hqa, hqb⟩]
      have h₁ := writer_tmpBesideD q writer_tmp3
      have h₂ := writer_tmpBesideD p writer_tmp2
      refine ⟨takeBoth_keeps h₁ h₂ s _ _, takeBoth_free h₁ h₂ s _ _, s.freeWord, (touchCode p s).freeWord, ?_⟩
      have hsep : Separate p q := separate_of_not_half (fun _ => ⟨hqa, hqb⟩) fun _ => ⟨hpa, hpb⟩
      refine takesWord_takeBoth h₁ h₂ (takeWord_tmpBesideD p q) hsep s ?_ ?_
      · rintro rfl hp
        exact exchangeWord_congr hp s _ _ _
      · rintro rfl rfl
        exact ⟨loByte_wordOf _ _, fun _ => ccrw_ipl s⟩

end Sys2Proof.Machine
end

section
/-! Addition, subtraction and compare (42_add_sub_compare.md R350 to R353, R376): the forms without and with the old C are one
operation each, on bytes and on words; a compare is the subtraction with its result discarded. Settles O24, O25, O26 and O27. -/

namespace Sys2Proof.Machine

open Sys2Proof Sys2Proof.Safety

/-! ### The operations with and without the old C (42_add_sub_compare.md R350 to R353) -/

/-- The carry or borrow that goes into the operation: the old C, or 0. -/
def carryTaken (withCarry : Bool) (ccr : Byte) : Bool := withCarry && ccr.getLsbD 0

/-- The Z rule of a 16-bit form: sticky with a carry, plain without one (42_add_sub_compare.md R353). -/
def zRule (withCarry : Bool) (old new : Byte) : Byte := if withCarry then stickyZ old new else new

/-- `Add8(x, m, C or 0)` (42_add_sub_compare.md R350). -/
def addWith8 (withCarry : Bool) (x m ccr : Byte) : Byte × Byte :=
  (addResult x m (carryTaken withCarry ccr), add8Flags x m (carryTaken withCarry ccr) ccr)

/-- `Add16(x, m, C or 0)` with the Z rule (42_add_sub_compare.md R351, R353). -/
def addWith16 (withCarry : Bool) (x m : Word) (ccr : Byte) : Word × Byte :=
  (addResult x m (carryTaken withCarry ccr), zRule withCarry ccr (add16Flags x m (carryTaken withCarry ccr) ccr))

/-- `Sub8(x, m, C or 0)` (42_add_sub_compare.md R352). -/
def subWith8 (withCarry : Bool) (x m ccr : Byte) : Byte × Byte :=
  (subResult x m (carryTaken withCarry ccr), subFlags x m (carryTaken withCarry ccr) ccr)

/-- `Sub16(x, m, C or 0)` with the Z rule (42_add_sub_compare.md R352, R353). -/
def subWith16 (withCarry : Bool) (x m : Word) (ccr : Byte) : Word × Byte :=
  (subResult x m (carryTaken withCarry ccr), zRule withCarry ccr (subFlags x m (carryTaken withCarry ccr) ccr))

/-! The operations of the model are these. -/

theorem addWith8_eq : addWith8 false = add8 ∧ addWith8 true = adc8 := ⟨rfl, rfl⟩
theorem addWith16_eq : addWith16 false = add16 ∧ addWith16 true = ade16 := ⟨rfl, rfl⟩
theorem subWith8_eq : subWith8 false = sub8 ∧ subWith8 true = sbc8 := ⟨rfl, rfl⟩
theorem subWith16_eq : subWith16 false = sub16 ∧ subWith16 true = sbe16 := ⟨rfl, rfl⟩

theorem oldCarry_eq (withCarry : Bool) (s : State) : oldCarry withCarry s = (carryTaken withCarry s.ccr).toNat := by
  unfold oldCarry carryTaken
  cases withCarry && s.ccr.getLsbD 0 <;> rfl

/-- Z as the rule leaves it: the plain Z, and with a carry the old Z besides. -/
theorem made_zRule {fc : FlagChange} {old new : Byte} {z : Bool} (withCarry : Bool) (h : fc.Made old new)
    (hz : fc.z = some z) : FlagChange.Made { fc with z := some (z && (!withCarry || old.getLsbD 2)) } old
      (zRule withCarry old new) := by
  cases withCarry with
  | true => exact made_stickyZ fc old new z h hz
  | false =>
    rw [Bool.not_false, Bool.true_or, Bool.and_true, ← hz]
    exact h

/-! ### A register, a source and the flags of an operation -/

section Effects

variable {fc : FlagChange} {fields : List Field} {s : State}

theorem effect_binary8 {get : State → Byte} {set : State → Byte → State} (w : Writer get set fields)
    (op : Byte → Byte → Byte → Byte × Byte) (src : Src8)
    (h : fc.Made s.ccr (op (get (src.update s)) (src.value s) s.ccr).2) :
    Effect fields fc (src.update s) (binary8 get set op src s) := by
  obtain ⟨-, hccr, hsame, hmem⟩ := binary8_does w op src s
  exact ⟨hsame, hmem, by rwa [hccr, Src8Update_ccr]⟩

theorem effect_binary16 {get : State → Word} {set : State → Word → State} (w : Writer get set fields)
    (op : Word → Word → Byte → Word × Byte) (src : Src16)
    (h : fc.Made s.ccr (op (get (src.update s)) (src.value s) s.ccr).2) :
    Effect fields fc (src.update s) (binary16 get set op src s) := by
  obtain ⟨-, hccr, hsame, hmem⟩ := binary16_does w op src s
  exact ⟨hsame, hmem, by rwa [hccr, Src16Update_ccr]⟩

theorem effect_compare8 (get : State → Byte) (op : Byte → Byte → Byte → Byte × Byte) (src : Src8)
    (h : fc.Made s.ccr (op (get (src.update s)) (src.value s) s.ccr).2) :
    Effect [] fc (src.update s) (compare8 get op src s) := by
  obtain ⟨hccr, hsame, hmem⟩ := compare8_does get op src s
  exact ⟨hsame, hmem, by rwa [hccr, Src8Update_ccr]⟩

theorem effect_compare16 (get : State → Word) (op : Word → Word → Byte → Word × Byte) (src : Src16)
    (h : fc.Made s.ccr (op (get (src.update s)) (src.value s) s.ccr).2) :
    Effect [] fc (src.update s) (compare16 get op src s) := by
  obtain ⟨hccr, hsame, hmem⟩ := compare16_does get op src s
  exact ⟨hsame, hmem, by rwa [hccr, Src16Update_ccr]⟩

/-- An operation of two registers: the first takes a value, the condition codes a change. -/
theorem Writer.effect_made {α : Type} {get : State → α} {set : State → α → State} (w : Writer get set fields) (v : α)
    {c : Byte} (h : fc.Made s.ccr c) : Effect fields fc s ((set s v).setCcr c) :=
  ⟨(w.effect s v c).1, (w.effect s v c).2, h⟩

end Effects

/-! ### Additions (42_add_sub_compare.md R350, R351) -/

section Additions

variable {withCarry : Bool} {fields : List Field}

/-- No operand form updates an 8-bit register, which `hget` says of this one. -/
theorem addsByte {i : Src8 → Instr} {get : State → Byte} {set : State → Byte → State} (w : Writer get set fields)
    (hget : ∀ (src : Src8) (s : State), get (src.update s) = get s)
    (hi : ∀ src s, exec (i src) s = .next (binary8 get set (addWith8 withCarry) src s)) :
    AddsByte i get fields withCarry := by
  intro src s
  obtain ⟨hread, -⟩ := binary8_does w (addWith8 withCarry) src s
  refine ⟨_, hi src s, ?_⟩
  dsimp only
  rw [hread, hget, oldCarry_eq]
  refine ⟨addResult_toNat (by decide) _ _ _, effect_binary8 w _ src ?_⟩
  rw [hget]
  exact made_add8Flags _ _ _ _

theorem addsWord {i : Src16 → Instr} {get : State → Word} {set : State → Word → State} (w : Writer get set fields)
    (hi : ∀ src s, exec (i src) s = .next (binary16 get set (addWith16 withCarry) src s)) :
    AddsWord i get fields withCarry := by
  intro src s
  obtain ⟨hread, -⟩ := binary16_does w (addWith16 withCarry) src s
  refine ⟨_, hi src s, ?_⟩
  dsimp only
  rw [hread, oldCarry_eq]
  exact ⟨addResult_toNat (by decide) _ _ _,
    effect_binary16 w _ src (made_zRule withCarry (made_add16Flags _ _ _ _) rfl)⟩

end Additions

/-- All that ABA does: the sum of A and B without a carry (42_add_sub_compare.md R354). -/
theorem aba_does (s : State) : Completes .aba s fun t =>
    t.a.toNat = (s.a.toNat + s.b.toNat) % 256 ∧
    Effect [.a] { sumFlags s.a s.b t.a 0 with h := some (decide (15 < s.a.toNat % 16 + s.b.toNat % 16)) } s t :=
  ⟨_, rfl, addResult_toNat (by decide) s.a s.b false, writer_a.effect_made _ (made_add8Flags s.a s.b false s.ccr)⟩

/-- Settles O24: `addsByte` for A and B, without and with the old C, and `aba_does`. -/
theorem byteAdditions : Obligations.ByteAdditions :=
  ⟨addsByte writer_a Src8Update_a fun _ _ => rfl, addsByte writer_b Src8Update_b fun _ _ => rfl,
    addsByte writer_a Src8Update_a fun _ _ => rfl, addsByte writer_b Src8Update_b fun _ _ => rfl, aba_does⟩

/-- Settles O25: `addsWord` for D, X and Y, without and with the old C. -/
theorem wordAdditions : Obligations.WordAdditions :=
  ⟨addsWord writer_d fun _ _ => rfl, addsWord writer_x fun _ _ => rfl, addsWord writer_y fun _ _ => rfl,
    addsWord writer_d fun _ _ => rfl, addsWord writer_x fun _ _ => rfl, addsWord writer_y fun _ _ => rfl⟩

/-! ### Subtractions (42_add_sub_compare.md R352) -/

section Subtractions

variable {withCarry : Bool} {fields : List Field}

theorem subtractsByte {i : Src8 → Instr} {get : State → Byte} {set : State → Byte → State} (w : Writer get set fields)
    (hget : ∀ (src : Src8) (s : State), get (src.update s) = get s)
    (hi : ∀ src s, exec (i src) s = .next (binary8 get set (subWith8 withCarry) src s)) :
    SubtractsByte i get fields withCarry := by
  intro src s
  obtain ⟨hread, -⟩ := binary8_does w (subWith8 withCarry) src s
  refine ⟨_, hi src s, ?_⟩
  dsimp only
  rw [hread, hget, oldCarry_eq]
  refine ⟨subResult_toNat8 _ _ _, effect_binary8 w _ src ?_⟩
  rw [hget]
  exact made_subFlags8 _ _ _ _

theorem subtractsWord {i : Src16 → Instr} {get : State → Word} {set : State → Word → State} (w : Writer get set fields)
    (hi : ∀ src s, exec (i src) s = .next (binary16 get set (subWith16 withCarry) src s)) :
    SubtractsWord i get fields withCarry := by
  intro src s
  obtain ⟨hread, -⟩ := binary16_does w (subWith16 withCarry) src s
  refine ⟨_, hi src s, ?_⟩
  dsimp only
  rw [hread, oldCarry_eq]
  exact ⟨subResult_toNat16 _ _ _,
    effect_binary16 w _ src (made_zRule withCarry (made_subFlags16 _ _ _ _) rfl)⟩

end Subtractions

/-- A difference without a borrow, as the statements write it. -/
theorem subResult_false_toNat8 (x m : Byte) :
    ((subResult x m false).toNat : Int) = ((x.toNat : Int) - m.toNat) % 256 := by
  simpa using subResult_toNat8 x m false

/-- Settles O26: `subtractsWord` for D, X and Y and `subtractsByte` for A and B, without and with the old C; SBA subtracts B. -/
theorem subtractions : Obligations.Subtractions :=
  ⟨subtractsWord writer_d fun _ _ => rfl, subtractsWord writer_x fun _ _ => rfl, subtractsWord writer_y fun _ _ => rfl,
    subtractsWord writer_d fun _ _ => rfl, subtractsWord writer_x fun _ _ => rfl, subtractsWord writer_y fun _ _ => rfl,
    subtractsByte writer_a Src8Update_a fun _ _ => rfl, subtractsByte writer_b Src8Update_b fun _ _ => rfl,
    subtractsByte writer_a Src8Update_a fun _ _ => rfl, subtractsByte writer_b Src8Update_b fun _ _ => rfl,
    fun s => ⟨_, rfl, subResult_false_toNat8 s.a s.b, writer_a.effect_made _ (made_subFlags8 s.a s.b false s.ccr)⟩⟩

/-! ### Compares (42_add_sub_compare.md R376) -/

theorem comparesByte {i : Src8 → Instr} {get : State → Byte}
    (hget : ∀ (src : Src8) (s : State), get (src.update s) = get s)
    (hi : ∀ src s, exec (i src) s = .next (compare8 get (subWith8 false) src s)) : ComparesByte i get := by
  intro src s
  refine ⟨_, hi src s, subResult (get s) (src.value s) false, subResult_false_toNat8 _ _, effect_compare8 get _ src ?_⟩
  rw [hget]
  exact made_subFlags8 _ _ false _

theorem comparesWord {i : Src16 → Instr} {get : State → Word} {withCarry : Bool}
    (hi : ∀ src s, exec (i src) s = .next (compare16 get (subWith16 withCarry) src s)) :
    ComparesWord i get withCarry := by
  intro src s
  refine ⟨_, hi src s, subResult (get (src.update s)) (src.value s) (carryTaken withCarry s.ccr), ?_⟩
  rw [oldCarry_eq]
  exact ⟨subResult_toNat16 _ _ _,
    effect_compare16 get _ src (made_zRule withCarry (made_subFlags16 _ _ _ _) rfl)⟩

/-- Settles O27: `comparesByte` for A and B, `comparesWord` for D, SP, X and Y, without and with the old C; CBA takes B. -/
theorem comparesSetFlagsOnly : Obligations.ComparesSetFlagsOnly :=
  ⟨comparesByte Src8Update_a fun _ _ => rfl, comparesByte Src8Update_b fun _ _ => rfl,
    comparesWord fun _ _ => rfl, comparesWord fun _ _ => rfl, comparesWord fun _ _ => rfl, comparesWord fun _ _ => rfl,
    comparesWord fun _ _ => rfl, comparesWord fun _ _ => rfl, comparesWord fun _ _ => rfl, comparesWord fun _ _ => rfl,
    fun s => ⟨_, rfl, subResult s.a s.b false, subResult_false_toNat8 s.a s.b, sameExcept_setCcr s _, fun _ _ => rfl,
      made_subFlags8 s.a s.b false s.ccr⟩⟩

end Sys2Proof.Machine
end

section
/-! DAA (42_add_sub_compare.md R387, 92 D13): its two corrections as conditions on the number in A, and the digits of a BCD sum.
Settles O28. -/

namespace Sys2Proof.Machine

open Sys2Proof Sys2Proof.Safety

/-! ### Condition codes outside a mask (92 D12) -/

/-- Free codes outside a mask agree bit by bit with what they were. -/
theorem getLsbD_of_sameCcrOutside {mask old new : Byte} {j : Nat} (h : SameCcrOutside mask old new) (hj : j < 8)
    (hm : mask.getLsbD j = false) : new.getLsbD j = old.getLsbD j := by
  have hbit := congrArg (·.getLsbD j) h
  simpa only [BitVec.getLsbD_and, BitVec.getLsbD_not, hm, hj, decide_true, Bool.not_false, Bool.and_true] using hbit

theorem sameCcrOutside_of_getLsbD {mask old new : Byte}
    (h : ∀ j < 8, mask.getLsbD j = false → new.getLsbD j = old.getLsbD j) : SameCcrOutside mask old new := by
  apply BitVec.eq_of_getLsbD_eq
  intro j hj
  rw [BitVec.getLsbD_and, BitVec.getLsbD_and, BitVec.getLsbD_not]
  cases hm : mask.getLsbD j with
  | true => simp
  | false => rw [h j hj hm]

/-! ### The corrections (42_add_sub_compare.md R387) -/

/-- The low correction: H is set, or the low digit is no decimal one. -/
def LowCorrected (x ccr : Byte) : Prop := ccr.getLsbD 5 = true ∨ 9 < x.toNat % 16

/-- The high correction: C is set, the high digit is no decimal one, or the low correction will carry into it. -/
def HighCorrected (x ccr : Byte) : Prop :=
  ccr.getLsbD 0 = true ∨ 9 < x.toNat / 16 ∨ (x.toNat / 16 = 9 ∧ 9 < x.toNat % 16)

theorem daaLow_iff (x ccr : Byte) : daaLow x ccr = true ↔ LowCorrected x ccr := by
  rw [daaLow, Bool.or_eq_true, decide_eq_true_iff]
  rfl

theorem daaHigh_iff (x ccr : Byte) : daaHigh x ccr = true ↔ HighCorrected x ccr := by
  rw [daaHigh, Bool.or_eq_true, Bool.or_eq_true, Bool.and_eq_true, decide_eq_true_iff, decide_eq_true_iff,
    decide_eq_true_iff, or_assoc]
  rfl

/-- The condition codes of DAA before V is left open: N and Z of the result, C the high correction. -/
def daaFlags (x ccr : Byte) : Byte := putFlag 0 (daaHigh x ccr) (flagsNZ (x + daaFactor x ccr) ccr)

/-- The state after DAA. -/
def decimalAdjusted (s : State) : State :=
  ((s.setA (s.a + daaFactor s.a s.ccr)).setCcr (daaFlags s.a s.ccr)).freeFlags 0x02

theorem exec_daa (s : State) : exec .daa s = .next (decimalAdjusted s) := rfl

theorem decimalAdjusted_a (s : State) : (decimalAdjusted s).a = s.a + daaFactor s.a s.ccr := rfl

/-- Of the condition codes V alone is left open. -/
theorem decimalAdjusted_ccr {j : Nat} (s : State) (hj : j < 8) (hv : j ≠ 1) :
    (decimalAdjusted s).ccr.getLsbD j = (daaFlags s.a s.ccr).getLsbD j :=
  getLsbD_of_sameCcrOutside (freeFlags_same _ 0x02).2 hj (by revert j; decide)

theorem daaFlags_getLsbD (x ccr : Byte) (j : Nat) : (daaFlags x ccr).getLsbD j =
    if j = 0 then daaHigh x ccr else if j = 3 then (x + daaFactor x ccr).msb
    else if j = 2 then x + daaFactor x ccr == 0#8 else ccr.getLsbD j := by
  rw [daaFlags, flagsNZ, putFlag_getLsbD _ _ _ _ (by decide), putFlag_getLsbD _ _ _ _ (by decide),
    putFlag_getLsbD _ _ _ _ (by decide)]

theorem decimalAdjusted_c (s : State) : (decimalAdjusted s).ccr.getLsbD 0 = true ↔ HighCorrected s.a s.ccr := by
  rw [decimalAdjusted_ccr s (by decide) (by decide), daaFlags_getLsbD]
  exact daaHigh_iff s.a s.ccr

theorem decimalAdjusted_n (s : State) :
    (decimalAdjusted s).ccr.getLsbD 3 = true ↔ 128 ≤ (decimalAdjusted s).a.toNat := by
  rw [decimalAdjusted_ccr s (by decide) (by decide), daaFlags_getLsbD, decimalAdjusted_a]
  exact (Bool.eq_iff_iff.mp (msb_iff_le (s.a + daaFactor s.a s.ccr))).trans decide_eq_true_iff

theorem decimalAdjusted_z (s : State) :
    (decimalAdjusted s).ccr.getLsbD 2 = true ↔ (decimalAdjusted s).a.toNat = 0 := by
  rw [decimalAdjusted_ccr s (by decide) (by decide), daaFlags_getLsbD, decimalAdjusted_a]
  show (s.a + daaFactor s.a s.ccr == 0#8) = true ↔ _
  rw [eq_zero_iff, decide_eq_true_iff]

theorem decimalAdjusted_outside (s : State) : SameCcrOutside 0x0F s.ccr (decimalAdjusted s).ccr := by
  refine sameCcrOutside_of_getLsbD fun j hj hm => ?_
  have hfree : ¬ (j = 0 ∨ j = 1 ∨ j = 2 ∨ j = 3) := by
    rintro (rfl | rfl | rfl | rfl) <;> exact absurd hm (by decide)
  rw [decimalAdjusted_ccr s hj (by omega), daaFlags_getLsbD, if_neg (by omega), if_neg (by omega), if_neg (by omega)]

theorem decimalAdjusted_keeps (s : State) : Keeps [.a, .ccr, .free] s (decimalAdjusted s) := by
  obtain ⟨hsame, hmem⟩ := writer_a.effect s (s.a + daaFactor s.a s.ccr) (daaFlags s.a s.ccr)
  have hfree : Keeps [.ccr, .free] _ (decimalAdjusted s) := ⟨(freeFlags_same _ 0x02).1, fun _ _ => rfl⟩
  exact keeps_mono (keeps_trans ⟨hsame, hmem⟩ hfree) (by decide)

/-- The number in A after DAA, with a conditional summand for each correction. -/
theorem decimalAdjusted_toNat (s : State) {lo hi : Bool} (hlo : LowCorrected s.a s.ccr ↔ lo = true)
    (hhi : HighCorrected s.a s.ccr ↔ hi = true) :
    (decimalAdjusted s).a.toNat = (s.a.toNat + ((if hi then 0x60 else 0) + if lo then 0x06 else 0)) % 256 := by
  rw [← daaLow_iff, ← Bool.eq_iff_iff] at hlo
  rw [← daaHigh_iff, ← Bool.eq_iff_iff] at hhi
  rw [decimalAdjusted_a, BitVec.toNat_add, daaFactor, hlo, hhi]
  cases lo <;> cases hi <;> rfl

/-! ### The sum of two BCD bytes (42_add_sub_compare.md R387) -/

/-- The byte of two decimal digits, as a number. -/
def bcd (p : Nat) : Nat := p / 10 * 16 + p % 10

/-- The condition of the low correction after the BCD bytes are added: the low digits give ten or more. -/
theorem bcd_low_iff (p q : Nat) :
    (15 < bcd p % 16 + bcd q % 16 ∨ 9 < (bcd p + bcd q) % 256 % 16) ↔ 10 ≤ p % 10 + q % 10 := by
  unfold bcd
  omega

/-- The condition of the high correction: the numbers give a hundred or more.  A sum of 256 or more sets C, a smaller one keeps
its digits in A. -/
theorem bcd_high_iff {p q : Nat} (hp : p < 100) (hq : q < 100) :
    (256 ≤ bcd p + bcd q ∨ 9 < (bcd p + bcd q) % 256 / 16 ∨
      ((bcd p + bcd q) % 256 / 16 = 9 ∧ 9 < (bcd p + bcd q) % 256 % 16)) ↔ 100 ≤ p + q := by
  unfold bcd
  rcases Nat.lt_or_ge (p / 10 * 16 + p % 10 + (q / 10 * 16 + q % 10)) 256 with hfits | hcarry
  · rw [Nat.mod_eq_of_lt hfits]
    omega
  · omega

/-- The corrected sum: each correction skips the six codes that are no decimal digit. -/
theorem bcd_add {p q : Nat} (hp : p < 100) (hq : q < 100) :
    ((bcd p + bcd q) % 256 +
      ((if 100 ≤ p + q then 0x60 else 0) + if 10 ≤ p % 10 + q % 10 then 0x06 else 0)) % 256 =
    bcd ((p + q) % 100) := by
  unfold bcd
  split <;> split <;> omega

/-- What DAA reads after ABA: the sum, the carry from the low digit in H, the carry from the byte in C. -/
theorem aba_carries {s t : State} (ht : exec .aba s = .next t) :
    t.a.toNat = (s.a.toNat + s.b.toNat) % 256 ∧
    t.ccr.getLsbD 5 = decide (15 < s.a.toNat % 16 + s.b.toNat % 16) ∧
    t.ccr.getLsbD 0 = decide (256 ≤ s.a.toNat + s.b.toNat) := by
  obtain ⟨u, hu, hsum, -, -, -, -, -, hh, -, -, -, hc⟩ := aba_does s
  obtain rfl : u = t := Host.Outcome.next.inj (hu.symm.trans ht)
  exact ⟨hsum, hh, hc⟩

/-- After ABA of two BCD bytes the corrections are those of the digits. -/
theorem corrected_after_aba {s t : State} {p q : Nat} (hp : p < 100) (hq : q < 100) (ha : s.a.toNat = bcd p)
    (hb : s.b.toNat = bcd q) (ht : exec .aba s = .next t) :
    t.a.toNat = (bcd p + bcd q) % 256 ∧ (LowCorrected t.a t.ccr ↔ 10 ≤ p % 10 + q % 10) ∧
    (HighCorrected t.a t.ccr ↔ 100 ≤ p + q) := by
  obtain ⟨hsum, hh, hc⟩ := aba_carries ht
  rw [ha, hb] at hsum hh hc
  refine ⟨hsum, ?_, ?_⟩
  · rw [LowCorrected, hh, hsum, decide_eq_true_iff]
    exact bcd_low_iff p q
  · rw [HighCorrected, hc, hsum, decide_eq_true_iff]
    exact bcd_high_iff hp hq

/-- DAA after ABA: the BCD byte of the sum of the two numbers, its hundred in C. -/
theorem daa_after_aba {s t : State} {p q : Nat} (hp : p < 100) (hq : q < 100) (ha : s.a.toNat = bcd p)
    (hb : s.b.toNat = bcd q) (ht : exec .aba s = .next t) :
    Completes .daa t fun u => u.a.toNat = bcd ((p + q) % 100) ∧ (u.ccr.getLsbD 0 = true ↔ 100 ≤ p + q) := by
  obtain ⟨hsum, hlo, hhi⟩ := corrected_after_aba hp hq ha hb ht
  refine ⟨_, exec_daa t, ?_, (decimalAdjusted_c t).trans hhi⟩
  rw [decimalAdjusted_toNat t (hlo.trans decide_eq_true_iff.symm) (hhi.trans decide_eq_true_iff.symm), hsum,
    ← bcd_add hp hq]
  simp only [decide_eq_true_eq]

/-- Settles O28: the four cases of the corrections by `decimalAdjusted_toNat`, the sum of BCD bytes by `daa_after_aba`. -/
theorem decimalAdjust : Obligations.DecimalAdjust := by
  refine ⟨fun s => ⟨_, exec_daa s, fun hlo hhi => ?both, fun hlo hhi => ?low, fun hlo hhi => ?high, fun hlo hhi => ?none,
    decimalAdjusted_c s, decimalAdjusted_n s, decimalAdjusted_z s, decimalAdjusted_outside s, decimalAdjusted_keeps s⟩,
    fun s t p q hp hq ha hb ht => ?bcd⟩
  case both => exact decimalAdjusted_toNat s (lo := true) (hi := true) (iff_of_true hlo rfl) (iff_of_true hhi rfl)
  case low => exact decimalAdjusted_toNat s (lo := true) (hi := false) (iff_of_true hlo rfl) (iff_of_false hhi nofun)
  case high => exact decimalAdjusted_toNat s (lo := false) (hi := true) (iff_of_false hlo nofun) (iff_of_true hhi rfl)
  case none =>
    have h := decimalAdjusted_toNat s (lo := false) (hi := false) (iff_of_false hlo nofun) (iff_of_false hhi nofun)
    exact BitVec.eq_of_toNat_eq (h.trans (Nat.mod_eq_of_lt s.a.isLt))
  case bcd =>
    obtain ⟨u, hu, hsum, hc⟩ := daa_after_aba hp hq ha hb ht
    refine ⟨u, hu, ?_, hc⟩
    rw [hsum, bcd]
    omega

end Sys2Proof.Machine
end

section
/-! Boolean logic, bit test and bit manipulation (43_logic_bit.md R450 to R470): one operation each on a register and a source,
on the flags alone, and on the byte at EA. Settles O29 and O30. -/

namespace Sys2Proof.Machine

open Sys2Proof Sys2Proof.Safety

/-! ### The bits of the operations (43_logic_bit.md R450) -/

/-- Bit `k` of an operation on words of `w` bits is `f` of the two bits `k`. -/
def BitByBit {w : Nat} (op : BitVec w → BitVec w → BitVec w) (f : Bool → Bool → Bool) : Prop :=
  ∀ (x m : BitVec w) (k : Nat), (op x m).getLsbD k = f (x.getLsbD k) (m.getLsbD k)

theorem bitAnd_bitByBit {w : Nat} : BitByBit (bitAnd (w := w)) (· && ·) := fun _ _ _ => BitVec.getLsbD_and
theorem bitOr_bitByBit {w : Nat} : BitByBit (bitOr (w := w)) (· || ·) := fun _ _ _ => BitVec.getLsbD_or
theorem bitXor_bitByBit {w : Nat} : BitByBit (bitXor (w := w)) (· != ·) := fun _ _ _ => BitVec.getLsbD_xor

/-! ### A register and a source (43_logic_bit.md R450 to R466) -/

section Registers

variable {fields : List Field} {f : Bool → Bool → Bool}

/-- No operand form updates an 8-bit register, which `hget` says of this one. -/
theorem combinesByte {i : Src8 → Instr} {get : State → Byte} {set : State → Byte → State} {op : Byte → Byte → Byte}
    (w : Writer get set fields) (hop : BitByBit op f) (hget : ∀ (src : Src8) (s : State), get (src.update s) = get s)
    (hi : ∀ src s, exec (i src) s = .next (binary8 get set (logic op) src s)) : CombinesByte i get fields f := by
  intro src s
  obtain ⟨hread, -⟩ := binary8_does w (logic op) src s
  refine ⟨_, hi src s, ?_⟩
  dsimp only
  rw [hread]
  refine ⟨fun k _ => ?_, effect_binary8 w _ src (made_logicFlags _ _)⟩
  rw [hget]
  exact hop _ _ k

theorem combinesWord {i : Src16 → Instr} {get : State → Word} {set : State → Word → State} {op : Word → Word → Word}
    (w : Writer get set fields) (hop : BitByBit op f)
    (hi : ∀ src s, exec (i src) s = .next (binary16 get set (logic op) src s)) : CombinesWord i get fields f := by
  intro src s
  obtain ⟨hread, -⟩ := binary16_does w (logic op) src s
  refine ⟨_, hi src s, ?_⟩
  dsimp only
  rw [hread]
  exact ⟨fun k _ => hop _ _ k, effect_binary16 w _ src (made_logicFlags _ _)⟩

/-- The discarded result is the AND of the register and the source. -/
theorem testsByte {i : Src8 → Instr} {get : State → Byte}
    (hget : ∀ (src : Src8) (s : State), get (src.update s) = get s)
    (hi : ∀ src s, exec (i src) s = .next (compare8 get (logic bitAnd) src s)) : TestsByte i get := by
  intro src s
  refine ⟨_, hi src s, bitAnd (get s) (src.value s), fun k _ => bitAnd_bitByBit _ _ k, effect_compare8 get _ src ?_⟩
  rw [hget]
  exact made_logicFlags _ _

theorem testsWord {i : Src16 → Instr} {get : State → Word}
    (hi : ∀ src s, exec (i src) s = .next (compare16 get (logic bitAnd) src s)) : TestsWord i get :=
  fun src s => ⟨_, hi src s, bitAnd (get (src.update s)) (src.value s), fun k _ => bitAnd_bitByBit _ _ k,
    effect_compare16 get _ src (made_logicFlags _ _)⟩

end Registers

/-- Settles O29: `combinesByte` and `combinesWord` for AND, OR and exclusive OR, `testsByte` and `testsWord` for the tests. -/
theorem bitwiseLogic : Obligations.BitwiseLogic :=
  ⟨combinesByte writer_a bitAnd_bitByBit Src8Update_a fun _ _ => rfl,
    combinesByte writer_b bitAnd_bitByBit Src8Update_b fun _ _ => rfl,
    combinesWord writer_x bitAnd_bitByBit fun _ _ => rfl, combinesWord writer_y bitAnd_bitByBit fun _ _ => rfl,
    combinesByte writer_a bitOr_bitByBit Src8Update_a fun _ _ => rfl,
    combinesByte writer_b bitOr_bitByBit Src8Update_b fun _ _ => rfl,
    combinesWord writer_x bitOr_bitByBit fun _ _ => rfl, combinesWord writer_y bitOr_bitByBit fun _ _ => rfl,
    combinesByte writer_a bitXor_bitByBit Src8Update_a fun _ _ => rfl,
    combinesByte writer_b bitXor_bitByBit Src8Update_b fun _ _ => rfl,
    combinesWord writer_x bitXor_bitByBit fun _ _ => rfl, combinesWord writer_y bitXor_bitByBit fun _ _ => rfl,
    testsByte Src8Update_a fun _ _ => rfl, testsByte Src8Update_b fun _ _ => rfl,
    testsWord fun _ _ => rfl, testsWord fun _ _ => rfl⟩

/-! ### The byte at EA (43_logic_bit.md R467 to R470) -/

/-- All a bit manipulation of a direct operand does. -/
theorem modifyBits_does (f test : Byte → Byte) {ea : Ea} (hd : ea.isDirect = true) (s : State) (hm : MemoryForm s) :
    ∃ t, modifyBits f test ea s = .next t ∧
      StoresByte [.ccr] (ea.update s) t (ea.addr s) (f (s.readByte (ea.addr s))) ∧
      (FlagChange.nz (test (s.readByte (ea.addr s))) (some false) none).Made s.ccr t.ccr := by
  refine ⟨_, if_pos hd, stores_writeByte_setCcr _ _ _ _ (memoryForm_update (EaUpdate_mem ea s) hm), ?_⟩
  rw [State.setCcr_ccr, EaUpdate_ccr]
  exact made_logicFlags _ _

/-- An indirect operand is no form of the instruction (31_indexed_postbyte.md R160, 92 D4). -/
theorem modifyBits_refuses (f test : Byte → Byte) {ea : Ea} (hd : ea.isDirect = false) (s : State) :
    modifyBits f test ea s = .refused .reservedForm :=
  (modifyBits_answersExactly f test ea s).2 hd

theorem manipulatesBits {i : Ea → Byte → Instr} {f test : Byte → Byte → Byte}
    (hi : ∀ ea mask s, exec (i ea mask) s = modifyBits (f · mask) (test · mask) ea s) : ManipulatesBits i f test := by
  intro ea mask s hm
  rw [Completes, hi ea mask s]
  exact ⟨fun hd => modifyBits_does _ _ hd s hm, fun hd => modifyBits_refuses _ _ hd s⟩

/-- Settles O30: `manipulatesBits`; BTAS tests the AND of the byte and the mask and stores the OR. -/
theorem bitManipulation : Obligations.BitManipulation :=
  ⟨manipulatesBits fun _ _ _ => rfl, manipulatesBits fun _ _ _ => rfl, manipulatesBits fun _ _ _ => rfl⟩

end Sys2Proof.Machine
end

section
/-! Clear, complement, negate, decrement, increment and test (44_inc_dec_clr_com_neg_tst.md R520 to R566): each operation in
numbers, once for every width, and what an operation on one operand does to a register, a byte and a word of memory. Settles O31
and O32. -/

namespace Sys2Proof.Machine

open Sys2Proof Sys2Proof.Safety

/-! ### Operations on one operand -/

/-- The model's operation `f` gives the result of `op` and makes its flag change. -/
def Realises {w : Nat} (f : BitVec w → Byte → BitVec w × Byte) (op : Operation w) : Prop :=
  ∀ (v : BitVec w) (ccr : Byte),
    (f v ccr).1 = op.result v (ccr.getLsbD 0) ∧ (op.flags v (ccr.getLsbD 0)).Made ccr (f v ccr).2

theorem onRegister {w : Nat} {i : Instr} {get : State → BitVec w} {set : State → BitVec w → State}
    {fields : List Field} {f : BitVec w → Byte → BitVec w × Byte} {op : Operation w} (writer : Writer get set fields)
    (hf : Realises f op)
    (hi : ∀ s, exec i s = .next ((set s (f (get s) s.ccr).1).setCcr (f (get s) s.ccr).2)) :
    OnRegister i get fields op := by
  intro s
  obtain ⟨hresult, hflags⟩ := hf (get s) s.ccr
  exact ⟨_, hi s, (writer.read ..).trans hresult, writer.effect_made _ hflags⟩

theorem onByte {i : Xea → Instr} {f : Byte → Byte → Byte × Byte} {op : Operation 8} (hf : Realises f op)
    (hi : ∀ ea s, exec (i ea) s = .next (modify8 f ea s)) : OnByte i op := by
  intro ea s hm
  obtain ⟨hstore, hccr⟩ := modify8_does f ea s hm
  obtain ⟨hresult, hflags⟩ := hf (s.readByte (ea.addr s s.pc)) s.ccr
  exact ⟨_, hi ea s, hresult ▸ hstore, hccr ▸ hflags⟩

theorem onWord {i : Xea → Instr} {f : Word → Byte → Word × Byte} {op : Operation 16} (hf : Realises f op)
    (hi : ∀ ea s, exec (i ea) s = .next (modify16 f ea s)) : OnWord i op := by
  intro ea s hm
  obtain ⟨hstore, hccr⟩ := modify16_does f ea s hm
  obtain ⟨hresult, hflags⟩ := hf (s.readWord (ea.addr s s.pc)) s.ccr
  exact ⟨_, hi ea s, hresult ▸ hstore, hccr ▸ hflags⟩

/-- An operation of every width on the six operands. -/
theorem onAll {ia ib ix iy : Instr} {im iw : Xea → Instr} {f : (w : Nat) → BitVec w → Byte → BitVec w × Byte}
    {op : (w : Nat) → Operation w} (hf : ∀ w, 0 < w → Realises (f w) (op w))
    (ha : ∀ s, exec ia s = .next (unary8 State.a State.setA (f 8) s))
    (hb : ∀ s, exec ib s = .next (unary8 State.b State.setB (f 8) s))
    (hx : ∀ s, exec ix s = .next (unary16 State.x State.setX (f 16) s))
    (hy : ∀ s, exec iy s = .next (unary16 State.y State.setY (f 16) s))
    (hm : ∀ ea s, exec (im ea) s = .next (modify8 (f 8) ea s))
    (hw : ∀ ea s, exec (iw ea) s = .next (modify16 (f 16) ea s)) : OnAll ia ib ix iy im iw op :=
  have h8 := hf 8 (by decide)
  have h16 := hf 16 (by decide)
  ⟨onRegister writer_a h8 ha, onRegister writer_b h8 hb, onRegister writer_x h16 hx, onRegister writer_y h16 hy,
    onByte h8 hm, onWord h16 hw⟩

/-! ### Clear and complement (44_inc_dec_clr_com_neg_tst.md R521, R527) -/

/-- Clear in the form of the other operations; the operand is not looked at (R521). -/
def cleared {w : Nat} (_ : BitVec w) (ccr : Byte) : BitVec w × Byte := (0#w, clearFlags ccr)

theorem made_clearFlags (ccr : Byte) :
    FlagChange.Made ⟨none, some false, some true, some false, some false⟩ ccr (clearFlags ccr) := by
  simp only [FlagChange.Made, clearFlags, putFlag_getLsbD _ _ _ _ (show 0 < 8 by decide),
    putFlag_getLsbD _ _ _ _ (show 1 < 8 by decide), putFlag_getLsbD _ _ _ _ (show 2 < 8 by decide),
    putFlag_getLsbD _ _ _ _ (show 3 < 8 by decide)]
  exact ⟨rfl, rfl, rfl, rfl, rfl, rfl, rfl, rfl⟩

theorem cleared_realises (w : Nat) : Realises cleared (clearing w) := fun _ ccr => ⟨rfl, made_clearFlags ccr⟩

theorem not_eq_ofNat {w : Nat} (v : BitVec w) : ~~~v = BitVec.ofNat w (2 ^ w - 1 - v.toNat) := by
  rw [← BitVec.toNat_not, BitVec.ofNat_toNat, BitVec.setWidth_eq]

theorem complement_realises (w : Nat) : Realises complement (complementing w) := by
  intro v ccr
  have hflags := made_flagsNZVC (~~~v) false true ccr
  refine ⟨not_eq_ofNat v, ?_⟩
  show FlagChange.Made (.nz _ _ _) ccr _
  rw [← not_eq_ofNat]
  exact hflags

/-! ### Negate, decrement and increment (44_inc_dec_clr_com_neg_tst.md R534, R541, R551) -/

section Counting

variable {w : Nat}

/-- The most negative number, as a number without sign. -/
theorem beq_intMin (hw : 0 < w) (v : BitVec w) : (v == BitVec.intMin w) = decide (v.toNat = 2 ^ (w - 1)) := by
  rw [Bool.eq_iff_iff, beq_iff_eq, decide_eq_true_iff, BitVec.toNat_eq, BitVec.toNat_intMin_of_pos hw]

/-- The most positive number, as a number without sign. -/
theorem beq_intMax (v : BitVec w) : (v == BitVec.intMax w) = decide (v.toNat = 2 ^ (w - 1) - 1) := by
  rw [Bool.eq_iff_iff, beq_iff_eq, decide_eq_true_iff, BitVec.toNat_eq, BitVec.toNat_intMax]

/-- The most negative number is its own negative, and no other number has it as its negative: V can be read off the operand. -/
theorem zero_sub_beq_intMin (hw : 0 < w) (v : BitVec w) :
    (0#w - v == BitVec.intMin w) = decide (v.toNat = 2 ^ (w - 1)) := by
  rw [← beq_intMin hw, Bool.eq_iff_iff, beq_iff_eq, beq_iff_eq, BitVec.zero_sub, BitVec.neg_eq_iff_eq_neg,
    BitVec.neg_intMin]

/-- Zero alone has zero as its negative: C can be read off the operand. -/
theorem zero_sub_bne_zero (v : BitVec w) : (0#w - v != 0#w) = decide (v.toNat ≠ 0) := by
  rw [Bool.eq_iff_iff, bne_iff_ne, decide_eq_true_iff, BitVec.zero_sub, BitVec.neg_ne_iff_ne_neg, BitVec.neg_zero,
    Ne, BitVec.toNat_eq, BitVec.toNat_zero]

theorem zero_sub_eq_ofNat (v : BitVec w) : 0#w - v = BitVec.ofNat w (2 ^ w - v.toNat) := by
  apply BitVec.eq_of_toNat_eq
  rw [BitVec.zero_sub, BitVec.toNat_neg, BitVec.toNat_ofNat]

theorem sub_one_eq_ofNat (hw : 0 < w) (v : BitVec w) : v - 1#w = BitVec.ofNat w (v.toNat + (2 ^ w - 1)) := by
  apply BitVec.eq_of_toNat_eq
  rw [BitVec.toNat_sub, BitVec.toNat_one hw, BitVec.toNat_ofNat, Nat.add_comm]

theorem add_one_eq_ofNat (hw : 0 < w) (v : BitVec w) : v + 1#w = BitVec.ofNat w (v.toNat + 1) := by
  apply BitVec.eq_of_toNat_eq
  rw [BitVec.toNat_add, BitVec.toNat_one hw, BitVec.toNat_ofNat]

theorem negate_realises (hw : 0 < w) : Realises negate (negating w) := by
  intro v ccr
  have hflags := made_flagsNZVC (0#w - v) (0#w - v == BitVec.intMin w) (0#w - v != 0#w) ccr
  refine ⟨zero_sub_eq_ofNat v, ?_⟩
  show FlagChange.Made (.nz _ _ _) ccr _
  rw [← zero_sub_eq_ofNat, ← zero_sub_beq_intMin hw, ← zero_sub_bne_zero]
  exact hflags

theorem decrement_realises (hw : 0 < w) : Realises decrement (decrementing w) := by
  intro v ccr
  have hflags := made_flagsNZV (v - 1#w) (v == BitVec.intMin w) ccr
  refine ⟨sub_one_eq_ofNat hw v, ?_⟩
  show FlagChange.Made (.nz _ _ _) ccr _
  rw [← sub_one_eq_ofNat hw, ← beq_intMin hw]
  exact hflags

theorem increment_realises (hw : 0 < w) : Realises increment (incrementing w) := by
  intro v ccr
  have hflags := made_flagsNZV (v + 1#w) (v == BitVec.intMax w) ccr
  refine ⟨add_one_eq_ofNat hw v, ?_⟩
  show FlagChange.Made (.nz _ _ _) ccr _
  rw [← add_one_eq_ofNat hw, ← beq_intMax]
  exact hflags

end Counting

/-! ### Test (44_inc_dec_clr_com_neg_tst.md R560) -/

/-- An instruction that leaves the operand's update with the flags of a test on `v`. -/
theorem completes_test {w : Nat} {i : Instr} {s updated : State} {v : BitVec w}
    (hi : exec i s = .next (updated.setCcr (testFlags v updated.ccr))) :
    Completes i s (Effect [] (.nz v (some false) (some false)) updated) :=
  ⟨_, hi, sameExcept_setCcr _ _, fun _ _ => rfl, made_testFlags v updated.ccr⟩

/-- Settles O31: `onAll` for clear, complement and negate, `completes_test` for the six forms of TST. -/
theorem clearComplementNegateTest : Obligations.ClearComplementNegateTest :=
  ⟨onAll (f := @cleared) (fun w _ => cleared_realises w) (fun _ => rfl) (fun _ => rfl) (fun _ => rfl) (fun _ => rfl)
      (fun _ _ => rfl) (fun _ _ => rfl),
    onAll (f := @complement) (fun w _ => complement_realises w) (fun _ => rfl) (fun _ => rfl) (fun _ => rfl)
      (fun _ => rfl) (fun _ _ => rfl) (fun _ _ => rfl),
    onAll (f := @negate) (fun _ hw => negate_realises hw) (fun _ => rfl) (fun _ => rfl) (fun _ => rfl) (fun _ => rfl)
      (fun _ _ => rfl) (fun _ _ => rfl),
    fun _ => ⟨completes_test rfl, completes_test rfl, completes_test rfl, completes_test rfl,
      fun _ => ⟨completes_test rfl, completes_test rfl⟩⟩⟩

/-! ### The index registers, Z alone (44_inc_dec_clr_com_neg_tst.md R548) -/

theorem made_zeroFlag (r : Word) (ccr : Byte) :
    FlagChange.Made ⟨none, none, some (decide (r = 0)), none, none⟩ ccr (zeroFlag r ccr) :=
  made_putZ .keep ccr ccr (r == 0#16) (made_keep ccr)

/-- An instruction that gives a register the word `v` and sets Z by it. -/
theorem completes_zeroFlag {i : Instr} {s : State} {get : State → Word} {set : State → Word → State}
    {fields : List Field} {v : Word} (writer : Writer get set fields)
    (hi : exec i s = .next ((set s v).setCcr (zeroFlag v s.ccr))) :
    Completes i s fun t => get t = v ∧ Effect fields ⟨none, none, some (decide (get t = 0)), none, none⟩ s t := by
  refine ⟨_, hi, writer.read .., ?_⟩
  rw [writer.read]
  exact writer.effect_made v (made_zeroFlag v s.ccr)

/-- Settles O32: `onAll` for decrement and increment, `completes_zeroFlag` for DEX, DEY, INX and INY. -/
theorem decrementIncrement : Obligations.DecrementIncrement :=
  ⟨onAll (f := @decrement) (fun _ hw => decrement_realises hw) (fun _ => rfl) (fun _ => rfl) (fun _ => rfl)
      (fun _ => rfl) (fun _ _ => rfl) (fun _ _ => rfl),
    onAll (f := @increment) (fun _ hw => increment_realises hw) (fun _ => rfl) (fun _ => rfl) (fun _ => rfl)
      (fun _ => rfl) (fun _ _ => rfl) (fun _ _ => rfl),
    fun _ => ⟨completes_zeroFlag writer_x rfl, completes_zeroFlag writer_y rfl, completes_zeroFlag writer_x rfl,
      completes_zeroFlag writer_y rfl⟩⟩

end Sys2Proof.Machine
end

section
/-! Shifts and rotates by one bit (45_shift_rotate.md R600 to R641): the two directions in numbers, once for every width and every
bit shifted in, and the five operations as cases of them. Settles O33. -/

namespace Sys2Proof.Machine

open Sys2Proof Sys2Proof.Safety

section OneBit

variable {w : Nat} {f : BitVec w → Byte → BitVec w × Byte}

/-- A left shift of which C takes the MSB (R601): the bit it takes in is a function of the old C. -/
theorem shiftingLeft_realised {into : Bool → Bool} (hw : 0 < w)
    (hf : ∀ v ccr, f v ccr = (shiftLeftIn v (into (ccr.getLsbD 0)),
      shiftFlags (shiftLeftIn v (into (ccr.getLsbD 0))) v.msb ccr)) :
    Realises f (shiftingLeft w into) := by
  intro v ccr
  have hresult := shiftLeftIn_eq hw v (into (ccr.getLsbD 0))
  have hflags := made_shiftFlags (shiftLeftIn v (into (ccr.getLsbD 0))) v.msb ccr
  rw [hf]
  refine ⟨hresult, ?_⟩
  show FlagChange.Made (shiftedFlags _ _) ccr _
  rw [← hresult, ← msb_iff_le]
  exact hflags

/-- A right shift of which C takes bit 0 (R601): the bit it takes in is a function of the operand and the old C. -/
theorem shiftingRight_realised {into : BitVec w → Bool → Bool} (hw : 0 < w)
    (hf : ∀ v ccr, f v ccr = (shiftRightIn v (into v (ccr.getLsbD 0)),
      shiftFlags (shiftRightIn v (into v (ccr.getLsbD 0))) (v.getLsbD 0) ccr)) :
    Realises f (shiftingRight w into) := by
  intro v ccr
  have hresult := shiftRightIn_eq hw v (into v (ccr.getLsbD 0))
  have hflags := made_shiftFlags (shiftRightIn v (into v (ccr.getLsbD 0))) (v.getLsbD 0) ccr
  rw [hf]
  refine ⟨hresult, ?_⟩
  show FlagChange.Made (shiftedFlags _ _) ccr _
  rw [← hresult, ← bit0_iff_odd]
  exact hflags

theorem shiftLeft_realises (hw : 0 < w) : Realises shiftLeft (arithmeticLeft w) :=
  shiftingLeft_realised hw fun _ _ => rfl

theorem rotateLeft_realises (hw : 0 < w) : Realises rotateLeft (carryLeft w) :=
  shiftingLeft_realised hw fun _ _ => rfl

/-- The sign that is held is the MSB: at least half the range. -/
theorem arithmeticRight_realises (hw : 0 < w) : Realises arithmeticRight (signedRight w) :=
  shiftingRight_realised hw fun v _ => by rw [← msb_iff_le]; rfl

theorem logicalRight_realises (hw : 0 < w) : Realises logicalRight (unsignedRight w) :=
  shiftingRight_realised hw fun _ _ => rfl

theorem rotateRight_realises (hw : 0 < w) : Realises rotateRight (carryRight w) :=
  shiftingRight_realised hw fun _ _ => rfl

end OneBit

/-- Settles O33: `onAll` for the six mnemonics on A, B, X, Y and memory, `onRegister` for the three that also take D. LSL is
ASL (R602). -/
theorem shiftsAndRotates : Obligations.ShiftsAndRotates :=
  have shiftLeft16 := shiftLeft_realises (w := 16) (by decide)
  have logicalRight16 := logicalRight_realises (w := 16) (by decide)
  ⟨onAll (f := @shiftLeft) (fun _ => shiftLeft_realises) (fun _ => rfl) (fun _ => rfl) (fun _ => rfl) (fun _ => rfl)
      (fun _ _ => rfl) (fun _ _ => rfl),
    onRegister writer_d shiftLeft16 fun _ => rfl,
    onAll (f := @shiftLeft) (fun _ => shiftLeft_realises) (fun _ => rfl) (fun _ => rfl) (fun _ => rfl) (fun _ => rfl)
      (fun _ _ => rfl) (fun _ _ => rfl),
    onRegister writer_d shiftLeft16 fun _ => rfl,
    onAll (f := @arithmeticRight) (fun _ => arithmeticRight_realises) (fun _ => rfl) (fun _ => rfl) (fun _ => rfl)
      (fun _ => rfl) (fun _ _ => rfl) (fun _ _ => rfl),
    onAll (f := @logicalRight) (fun _ => logicalRight_realises) (fun _ => rfl) (fun _ => rfl) (fun _ => rfl)
      (fun _ => rfl) (fun _ _ => rfl) (fun _ _ => rfl),
    onRegister writer_d logicalRight16 fun _ => rfl,
    onAll (f := @rotateLeft) (fun _ => rotateLeft_realises) (fun _ => rfl) (fun _ => rfl) (fun _ => rfl) (fun _ => rfl)
      (fun _ _ => rfl) (fun _ _ => rfl),
    onAll (f := @rotateRight) (fun _ => rotateRight_realises) (fun _ => rfl) (fun _ => rfl) (fun _ => rfl)
      (fun _ => rfl) (fun _ _ => rfl) (fun _ _ => rfl)⟩

end Sys2Proof.Machine
end

section
/-! Multiplications and the multiply-accumulate (46_mul_div_minmax_table.md R650 to R653): a product of two words as the 32 bits of
two registers or of two words of memory. Settles O34 and O35. -/

namespace Sys2Proof.Machine

open Sys2Proof Sys2Proof.Safety

/-! ### 32-bit values (00_scope.md R8) -/

theorem toNat_longOf (hi lo : Word) : (longOf hi lo).toNat = hi.toNat * 65536 + lo.toNat := by
  rw [longOf, BitVec.toNat_append, ← Nat.shiftLeft_add_eq_or_of_lt lo.isLt, Nat.shiftLeft_eq]

theorem toNat_hiWord (v : BitVec 32) : (hiWord v).toNat = v.toNat / 65536 := by
  have hv := v.isLt
  rw [hiWord, BitVec.extractLsb'_toNat, Nat.shiftRight_eq_div_pow]
  omega

theorem toNat_loWord (v : BitVec 32) : (loWord v).toNat = v.toNat % 65536 := by
  rw [loWord, BitVec.extractLsb'_toNat, Nat.shiftRight_zero]

@[simp] theorem longOf_hiWord_loWord (v : BitVec 32) : longOf (hiWord v) (loWord v) = v := by
  apply BitVec.eq_of_toNat_eq
  rw [toNat_longOf, toNat_hiWord, toNat_loWord]
  omega

@[simp] theorem hiWord_longOf (hi lo : Word) : hiWord (longOf hi lo) = hi := by
  apply BitVec.eq_of_toNat_eq
  have := lo.isLt
  rw [toNat_hiWord, toNat_longOf]
  omega

@[simp] theorem loWord_longOf (hi lo : Word) : loWord (longOf hi lo) = lo := by
  apply BitVec.eq_of_toNat_eq
  have := lo.isLt
  rw [toNat_loWord, toNat_longOf]
  omega

theorem getLsbD_loWord (v : BitVec 32) {k : Nat} (hk : k < 16) : (loWord v).getLsbD k = v.getLsbD k := by
  rw [loWord, BitVec.getLsbD_extractLsb', Nat.zero_add]
  simp only [hk, decide_true, Bool.true_and]

theorem getLsbD_loByte (v : Word) {k : Nat} (hk : k < 8) : (loByte v).getLsbD k = v.getLsbD k := by
  rw [loByte, BitVec.getLsbD_extractLsb', Nat.zero_add]
  simp only [hk, decide_true, Bool.true_and]

/-! ### Products as numbers -/

theorem toNat_zext8 (b : Byte) : (zext8 b).toNat = b.toNat := by
  rw [zext8, BitVec.toNat_setWidth]
  omega

/-- A product of bytes fits in a word. -/
theorem toNat_byteProduct (x y : Byte) : (zext8 x * zext8 y).toNat = x.toNat * y.toNat := by
  have hfits : x.toNat * y.toNat < 256 * 256 := Nat.mul_lt_mul'' x.isLt y.isLt
  rw [BitVec.toNat_mul, toNat_zext8, toNat_zext8]
  exact Nat.mod_eq_of_lt hfits

/-- A product of words fits in 32 bits. -/
theorem toNat_wordProduct (x y : Word) : (x.zeroExtend 32 * y.zeroExtend 32).toNat = x.toNat * y.toNat := by
  have hfits : x.toNat * y.toNat < 65536 * 65536 := Nat.mul_lt_mul'' x.isLt y.isLt
  rw [BitVec.toNat_mul, BitVec.toNat_setWidth_of_le (by decide), BitVec.toNat_setWidth_of_le (by decide)]
  exact Nat.mod_eq_of_lt hfits

/-- A product of signed words is at most 2^30, and so fits in 32 bits. -/
theorem toInt_wordProduct (x y : Word) : (x.signExtend 32 * y.signExtend 32).toInt = x.toInt * y.toInt := by
  have hfits : (x.toInt * y.toInt).natAbs ≤ 32768 * 32768 := by
    rw [Int.natAbs_mul]
    have hx := sign16 x
    have hy := sign16 y
    exact Nat.mul_le_mul (by omega) (by omega)
  rw [BitVec.toInt_mul, BitVec.toInt_signExtend_of_le (by decide), BitVec.toInt_signExtend_of_le (by decide)]
  exact Int.bmod_eq_of_le (by omega) (by omega)

/-! ### Registers and condition codes -/

theorem setCcr_keeps (s : State) (c : Byte) : Keeps [.ccr] s (s.setCcr c) := ⟨sameExcept_setCcr s c, fun _ _ => rfl⟩

/-- The condition codes set after other registers. -/
theorem effect_setCcr {fields : List Field} {fc : FlagChange} {s t : State} {c : Byte} (h : Keeps fields s t)
    (hc : fc.Made s.ccr c) : Effect fields fc s (t.setCcr c) := by
  obtain ⟨hsame, hmem⟩ := keeps_trans h (setCcr_keeps t c)
  exact ⟨hsame, hmem, hc⟩

theorem made_flagsNZ {w : Nat} (r : BitVec w) (ccr : Byte) : (FlagChange.nz r none none).Made ccr (flagsNZ r ccr) := by
  simp [-BitVec.getLsbD_eq_getElem, FlagChange.Made, FlagChange.nz, flagsNZ, putFlag_getLsbD, msb_iff_neg, eq_zero_iff]

theorem made_productFlags (p : BitVec 32) (ccr : Byte) :
    (FlagChange.nz p none (some (p.getLsbD 15))).Made ccr (productFlags p ccr) :=
  made_putC _ ccr _ _ (made_flagsNZ p ccr)

/-- All that EMUL and EMULS do with their product (46 R651, R652). -/
theorem completes_product {i : Instr} {s : State} {p : BitVec 32}
    (hi : exec i s = .next (((s.setY (hiWord p)).setD (loWord p)).setCcr (productFlags p s.ccr))) :
    Completes i s fun t => longOf t.y t.d = p ∧
      Effect [.a, .b, .y] (.nz (t.y ++ t.d : BitVec 32) none (some (t.d.getLsbD 15))) s t := by
  have hflags := made_productFlags p s.ccr
  rw [← getLsbD_loWord p (by decide)] at hflags
  have hread : longOf (hiWord p) (loWord p) = p := longOf_hiWord_loWord p
  refine ⟨_, hi, ?_⟩
  simp only [State.d, State.setCcr_y, State.setCcr_a, State.setCcr_b, State.setD_y, State.setD_a, State.setD_b,
    State.setY_y, wordOf_hi_lo]
  refine ⟨hread, ?_⟩
  rw [show (hiWord p ++ loWord p : BitVec 32) = p from hread]
  exact effect_setCcr (writer_d.keeps_after (writer_y.keeps s _) _) hflags

theorem mul_does (s : State) : Completes .mul s fun t => t.d.toNat = s.a.toNat * s.b.toNat ∧
    Effect [.a, .b] ⟨none, none, none, none, some (t.b.getLsbD 7)⟩ s t := by
  have hbit : (loByte (zext8 s.a * zext8 s.b)).getLsbD 7 = (zext8 s.a * zext8 s.b).getLsbD 7 :=
    getLsbD_loByte _ (by decide)
  refine ⟨_, rfl, (congrArg BitVec.toNat (writer_d.read s _ _)).trans (toNat_byteProduct s.a s.b), ?_⟩
  simp only [State.setCcr_b, State.setD_b, hbit]
  exact writer_d.effect_made _ (made_putC .keep s.ccr s.ccr _ (made_keep s.ccr))

/-- Settles O34: each product as a number, EMUL and EMULS by `completes_product`. -/
theorem multiplications : Obligations.Multiplications := by
  refine ⟨rfl, rfl, rfl, fun s => ⟨mul_does s, ?emul, ?emuls⟩⟩
  case emul =>
    obtain ⟨t, ht, hproduct, heffect⟩ := completes_product (i := .emul) (s := s) rfl
    refine ⟨t, ht, ?_, heffect⟩
    rw [← toNat_longOf, hproduct, toNat_wordProduct]
  case emuls =>
    obtain ⟨t, ht, hproduct, heffect⟩ := completes_product (i := .emuls) (s := s) rfl
    refine ⟨t, ht, ?_, heffect⟩
    exact (congrArg BitVec.toInt hproduct).trans (toInt_wordProduct s.d s.y)

/-! ### EMACS (46_mul_div_minmax_table.md R653) -/

theorem sign32 (x : BitVec 32) :
    (x.msb = true ∧ 2147483648 ≤ x.toNat ∧ x.toInt = x.toNat - 4294967296) ∨
    (x.msb = false ∧ x.toNat < 2147483648 ∧ x.toInt = x.toNat) := by
  rw [BitVec.msb_eq_decide, BitVec.toInt_eq_toNat_cond]
  have := x.isLt
  by_cases h : 2147483648 ≤ x.toNat
  · left
    refine ⟨by simpa using h, h, ?_⟩
    rw [if_neg (by omega)]
    rfl
  · right
    refine ⟨by simpa using h, by omega, ?_⟩
    rw [if_pos (by omega)]

/-- A signed number added modulo 2^32. -/
theorem toNat_add_toInt32 (m i : BitVec 32) : ((m + i).toNat : Int) = ((m.toNat : Int) + i.toInt) % 2 ^ 32 := by
  have hi := sign32 i
  rw [BitVec.toNat_add]
  omega

/-- The sign formula of an addition is the signed range on 32 bits too (42 R351). -/
theorem addOverflow32 (m i : BitVec 32) :
    addOverflow m i (m + i) = decide (m.toInt + i.toInt < -2147483648 ∨ 2147483647 < m.toInt + i.toInt) := by
  have hm := sign32 m
  have hi := sign32 i
  have hr := sign32 (m + i)
  have hsum := toNat_add_toInt32 m i
  rw [addOverflow, Bool.eq_iff_iff, decide_eq_true_iff]
  rcases hm with ⟨hm, _, _⟩ | ⟨hm, _, _⟩ <;> rcases hi with ⟨hi, _, _⟩ | ⟨hi, _, _⟩ <;>
    rcases hr with ⟨hr, _, _⟩ | ⟨hr, _, _⟩ <;> rw [hm, hi, hr] <;> simp <;> omega

/-- The low word of a signed number, as a number. -/
theorem toNat_loWord_of_toInt (i : BitVec 32) : (loWord i).toNat = (i.toInt % 65536).toNat := by
  have hi := sign32 i
  rw [toNat_loWord]
  omega

/-- The flags of EMACS (46 R653) as those of an addition on 32 bits. -/
theorem made_accumulateFlags (old i : BitVec 32) {low : Word} (hlow : loWord old = low) (ccr : Byte) :
    (FlagChange.nz (old + i)
      (some (decide (old.toInt + i.toInt < -2147483648 ∨ 2147483647 < old.toInt + i.toInt)))
      (some (decide (65536 ≤ low.toNat + (i.toInt % 65536).toNat)))).Made ccr
      (flagsNZVC (old + i) (addOverflow old i (old + i)) (addCarry (loWord old) (loWord i) false) ccr) := by
  have hcarry : addCarry (loWord old) (loWord i) false = decide (65536 ≤ low.toNat + (i.toInt % 65536).toNat) := by
    rw [hlow, addCarry, toNat_loWord_of_toInt]
    rfl
  rw [← addOverflow32, ← hcarry]
  exact made_flagsNZVC _ _ _ ccr

/-- Settles O35: the sum as a number, its two stores one after the other, its flags by `made_accumulateFlags`. -/
theorem multiplyAccumulate : Obligations.MultiplyAccumulate := by
  intro addr s hm
  have hproduct := toInt_wordProduct (s.readWord s.x) (s.readWord s.y)
  have hform (v : Word) : MemoryForm (s.writeWord addr v) := s.wf_writeWord addr v hm
  refine ⟨_, rfl, longOf (s.readWord addr) (s.readWord (addr + 2)) +
    (s.readWord s.x).signExtend 32 * (s.readWord s.y).signExtend 32, s.writeWord addr _, ?_,
    stores_writeWord s addr _ hm, stores_writeWord_setCcr _ _ _ _ (hform _), ?_⟩
  · rw [← hproduct, toNat_add_toInt32]
    rfl
  · rw [← hproduct]
    exact made_accumulateFlags _ _ (loWord_longOf _ _) s.ccr

end Sys2Proof.Machine
end

section
/-! Divisions (46_mul_div_minmax_table.md R654 to R659): the quotient and the remainder as numbers where they fit, and what the
exceptional cases leave. Settles O36. -/

namespace Sys2Proof.Machine

open Sys2Proof Sys2Proof.Safety

/-! ### Division by zero and overflow (92 D12) -/

theorem freeFlags_keeps (s : State) (mask : Byte) : Keeps [.ccr, .free] s (s.freeFlags mask) :=
  ⟨(freeFlags_same s mask).1, fun _ _ => rfl⟩

/-- A free code of a mask leaves the bits outside it. -/
theorem getLsbD_freeFlags (s : State) {mask : Byte} {j : Nat} (hj : j < 8) (hm : mask.getLsbD j = false) :
    (s.freeFlags mask).ccr.getLsbD j = s.ccr.getLsbD j :=
  getLsbD_of_sameCcrOutside (freeFlags_same s mask).2 hj hm

/-- Condition codes set, then some of them free. -/
theorem setCcr_freeFlags_keeps (s : State) (c mask : Byte) : Keeps [.ccr, .free] s ((s.setCcr c).freeFlags mask) :=
  keeps_mono (keeps_trans (setCcr_keeps s c) (freeFlags_keeps _ mask)) (by decide)

theorem divideByZero_does (s : State) : (divideByZero s).ccr.getLsbD 0 = true ∧
    SameCcrOutside 0x0F s.ccr (divideByZero s).ccr ∧ Keeps [.ccr, .free] s (divideByZero s) := by
  have hccr {j : Nat} (hj : j < 8) (hm : (0x0E#8).getLsbD j = false) :
      (divideByZero s).ccr.getLsbD j = if j = 0 then true else s.ccr.getLsbD j :=
    (getLsbD_freeFlags (s.setCcr _) hj hm).trans (putFlag_getLsbD 0 j true s.ccr (by decide))
  refine ⟨hccr (by decide) (by decide), sameCcrOutside_of_getLsbD fun j hj hm => ?_, setCcr_freeFlags_keeps s _ _⟩
  have hout : (0x0E#8).getLsbD j = false ∧ j ≠ 0 := by revert hm; revert j; decide
  rw [hccr hj hout.1, if_neg hout.2]

theorem divideOverflow_does (s : State) : (divideOverflow s).ccr.getLsbD 1 = true ∧
    (divideOverflow s).ccr.getLsbD 0 = false ∧ SameCcrOutside 0x0F s.ccr (divideOverflow s).ccr ∧
    Keeps [.ccr, .free] s (divideOverflow s) := by
  have hccr {j : Nat} (hj : j < 8) (hm : (0x0C#8).getLsbD j = false) :
      (divideOverflow s).ccr.getLsbD j = if j = 1 then true else if j = 0 then false else s.ccr.getLsbD j := by
    rw [← putFlag_getLsbD 0 j false s.ccr (by decide), ← putFlag_getLsbD 1 j true _ (by decide)]
    exact getLsbD_freeFlags (s.setCcr _) hj hm
  refine ⟨hccr (by decide) (by decide), hccr (by decide) (by decide),
    sameCcrOutside_of_getLsbD fun j hj hm => ?_, setCcr_freeFlags_keeps s _ _⟩
  have hout : (0x0C#8).getLsbD j = false ∧ j ≠ 1 ∧ j ≠ 0 := by revert hm; revert j; decide
  rw [hccr hj hout.1, if_neg hout.2.1, if_neg hout.2.2]

/-- The flags of IDIV and FDIV (46 R657, R659): N stays. -/
theorem made_quotientFlags (q : Word) (v c : Bool) (ccr : Byte) :
    FlagChange.Made ⟨none, none, some (decide (q = 0)), some v, some c⟩ ccr (quotientFlags q v c ccr) := by
  simp [-BitVec.getLsbD_eq_getElem, FlagChange.Made, quotientFlags, putFlag_getLsbD]
  rfl

/-! ### Quotients and remainders as numbers (92 D23) -/

theorem toInt_ofInt16 {n : Int} (hlo : -32768 ≤ n) (hhi : n ≤ 32767) : (BitVec.ofInt 16 n).toInt = n :=
  BitVec.toInt_ofInt_eq_self (by decide) hlo (by omega)

theorem toNat_ofNat16 {n : Nat} (h : n < 65536) : (BitVec.ofNat 16 n).toNat = n := Nat.mod_eq_of_lt h

theorem toNat_ne_zero {x : Word} (hx : x ≠ 0) : x.toNat ≠ 0 := fun h => hx (BitVec.eq_of_toNat_eq h)

theorem toInt_ne_zero {x : Word} (hx : x ≠ 0) : x.toInt ≠ 0 := fun h => hx (BitVec.eq_of_toInt_eq h)

/-- Division rounds down: the remainder of a quotient that fits (46 R655, R659). -/
theorem natDivision_fits {n : Nat} {x : Word} (hx : x ≠ 0) (hq : n / x.toNat ≤ 65535) :
    n = (BitVec.ofNat 16 (n / x.toNat)).toNat * x.toNat + (BitVec.ofNat 16 (n % x.toNat)).toNat ∧
    (BitVec.ofNat 16 (n % x.toNat)).toNat < x.toNat := by
  have hlt := x.isLt
  have hrem : n % x.toNat < x.toNat := Nat.mod_lt n (Nat.pos_of_ne_zero (toNat_ne_zero hx))
  rw [toNat_ofNat16 (by omega), toNat_ofNat16 (by omega)]
  exact ⟨(Nat.div_add_mod' n x.toNat).symm, hrem⟩

/-- Signed division rounds toward zero: the remainder of a quotient that fits has the dividend's sign (46 R656, R658). -/
theorem truncatedDivision_fits {n : Int} {x : Word} (hx : x ≠ 0) (hlo : -32768 ≤ n.tdiv x.toInt)
    (hhi : n.tdiv x.toInt ≤ 32767) :
    n = (BitVec.ofInt 16 (n.tdiv x.toInt)).toInt * x.toInt + (BitVec.ofInt 16 (n.tmod x.toInt)).toInt ∧
    (BitVec.ofInt 16 (n.tmod x.toInt)).toInt.natAbs < x.toInt.natAbs ∧
    (0 < (BitVec.ofInt 16 (n.tmod x.toInt)).toInt → 0 < n) ∧
    ((BitVec.ofInt 16 (n.tmod x.toInt)).toInt < 0 → n < 0) := by
  have hsign := sign16 x
  have hrem : (n.tmod x.toInt).natAbs < x.toInt.natAbs := by
    rw [Int.natAbs_tmod]
    exact Nat.mod_lt _ (Int.natAbs_pos.mpr (toInt_ne_zero hx))
  rw [toInt_ofInt16 hlo hhi, toInt_ofInt16 (by omega) (by omega)]
  refine ⟨(Int.tdiv_mul_add_tmod n x.toInt).symm, hrem, fun hpos => ?_, fun hneg => ?_⟩
  · by_contra hn
    have hnonneg := Int.tmod_nonneg (a := -n) x.toInt (by omega)
    rw [Int.neg_tmod] at hnonneg
    omega
  · by_contra hn
    have hnonneg := Int.tmod_nonneg (a := n) x.toInt (by omega)
    omega

/-- A quotient of words fits but for -32768 by -1 (92 D24). -/
theorem wordQuotient_fits {d x : Word} (hover : ¬ (d.toInt = -32768 ∧ x.toInt = -1)) :
    -32768 ≤ d.toInt.tdiv x.toInt ∧ d.toInt.tdiv x.toInt ≤ 32767 := by
  have hd := sign16 d
  by_cases hone : x.toInt = -1
  · rw [hone, Int.tdiv_neg, Int.tdiv_one]
    omega
  by_cases hplus : x.toInt = 1
  · rw [hplus, Int.tdiv_one]
    omega
  · have habs : (d.toInt.tdiv x.toInt).natAbs = d.toInt.natAbs / x.toInt.natAbs := Int.natAbs_tdiv _ _
    by_cases hzero : x.toInt = 0
    · rw [hzero, Int.tdiv_zero]
      omega
    have hhalf : d.toInt.natAbs / x.toInt.natAbs ≤ d.toInt.natAbs / 2 := Nat.div_le_div_left (by omega) (by decide)
    omega

/-! ### The instructions -/

theorem ediv_does (s : State) : Completes .ediv s fun t =>
    let n := s.y.toNat * 65536 + s.d.toNat
    (s.x = 0 → t.ccr.getLsbD 0 = true ∧ SameCcrOutside 0x0F s.ccr t.ccr ∧ Keeps [.ccr, .free] s t) ∧
    (s.x ≠ 0 → 65535 < n / s.x.toNat →
      t.ccr.getLsbD 1 = true ∧ t.ccr.getLsbD 0 = false ∧ SameCcrOutside 0x0F s.ccr t.ccr ∧ Keeps [.ccr, .free] s t) ∧
    (s.x ≠ 0 → n / s.x.toNat ≤ 65535 →
      n = t.y.toNat * s.x.toNat + t.d.toNat ∧ t.d.toNat < s.x.toNat ∧
      Effect [.a, .b, .y] (.nz t.y (some false) (some false)) s t) := by
  by_cases hx : s.x = 0
  · exact ⟨divideByZero s, if_pos hx, fun _ => divideByZero_does s, fun h => absurd hx h, fun h => absurd hx h⟩
  rw [← toNat_longOf]
  generalize hn : (longOf s.y s.d).toNat = n
  by_cases hq : 65535 < n / s.x.toNat
  · exact ⟨divideOverflow s, (if_neg hx).trans (if_pos (hn ▸ hq)), fun h => absurd h hx,
      fun _ _ => divideOverflow_does s, fun _ h => absurd hq (Nat.not_lt.mpr h)⟩
  · refine ⟨_, (if_neg hx).trans (if_neg (hn ▸ hq)), fun h => absurd h hx, fun _ h => absurd h hq, fun _ hle => ?_⟩
    obtain ⟨hdiv, hrem⟩ := natDivision_fits hx hle
    rw [hn]
    simp only [State.d, State.setCcr_y, State.setCcr_a, State.setCcr_b, State.setD_y, State.setD_a, State.setD_b,
      State.setY_y, wordOf_hi_lo]
    exact ⟨hdiv, hrem, effect_setCcr (writer_d.keeps_after (writer_y.keeps s _) _) (made_flagsNZVC _ _ _ _)⟩

theorem edivs_does (s : State) : Completes .edivs s fun t =>
    let n := (s.y ++ s.d : BitVec 32).toInt
    let q := n.tdiv s.x.toInt
    (s.x = 0 → t.ccr.getLsbD 0 = true ∧ SameCcrOutside 0x0F s.ccr t.ccr ∧ Keeps [.ccr, .free] s t) ∧
    (s.x ≠ 0 → (32767 < q ∨ q < -32768) →
      t.ccr.getLsbD 1 = true ∧ t.ccr.getLsbD 0 = false ∧ SameCcrOutside 0x0F s.ccr t.ccr ∧ Keeps [.ccr, .free] s t) ∧
    (s.x ≠ 0 → -32768 ≤ q → q ≤ 32767 →
      n = t.y.toInt * s.x.toInt + t.d.toInt ∧ t.d.toInt.natAbs < s.x.toInt.natAbs ∧
      (0 < t.d.toInt → 0 < n) ∧ (t.d.toInt < 0 → n < 0) ∧
      Effect [.a, .b, .y] (.nz t.y (some false) (some false)) s t) := by
  by_cases hx : s.x = 0
  · exact ⟨divideByZero s, if_pos hx, fun _ => divideByZero_does s, fun h => absurd hx h, fun h => absurd hx h⟩
  by_cases hq : 32767 < (longOf s.y s.d).toInt.tdiv s.x.toInt ∨ (longOf s.y s.d).toInt.tdiv s.x.toInt < -32768
  · refine ⟨divideOverflow s, (if_neg hx).trans (if_pos hq), fun h => absurd h hx,
      fun _ _ => divideOverflow_does s, fun _ hlo hhi => ?_⟩
    rcases hq with hq | hq
    · exact absurd hq (not_lt.mpr hhi)
    · exact absurd hq (not_lt.mpr hlo)
  · refine ⟨_, (if_neg hx).trans (if_neg hq), fun h => absurd h hx, fun _ h => absurd h hq, fun _ hlo hhi => ?_⟩
    obtain ⟨hdiv, hrem, hpos, hneg⟩ := truncatedDivision_fits hx hlo hhi
    simp only [State.d, State.setCcr_y, State.setCcr_a, State.setCcr_b, State.setD_y, State.setD_a, State.setD_b,
      State.setY_y, wordOf_hi_lo]
    exact ⟨hdiv, hrem, hpos, hneg,
      effect_setCcr (writer_d.keeps_after (writer_y.keeps s _) _) (made_flagsNZVC _ _ _ _)⟩

/-- X written and D left free: what IDIV by zero, and FDIV by zero or out of range, do. -/
theorem effect_freeD {fc : FlagChange} (s : State) (v w : Word) {c : Byte} (hc : fc.Made s.ccr c) :
    Effect [.a, .b, .x, .free] fc s (((s.setX v).setD w).useFree.setCcr c) :=
  effect_setCcr (keeps_mono (keeps_trans (writer_d.keeps_after (writer_x.keeps s v) w) (useFree_keeps _)) (by decide)) hc

theorem idiv_does (s : State) : Completes .idiv s fun t =>
    (s.x ≠ 0 → s.d.toNat = t.x.toNat * s.x.toNat + t.d.toNat ∧ t.d.toNat < s.x.toNat ∧
      Effect [.a, .b, .x] ⟨none, none, some (decide (t.x = 0)), some false, some false⟩ s t) ∧
    (s.x = 0 → t.x = 0xFFFF ∧ Effect [.a, .b, .x, .free] ⟨none, none, some false, some false, some true⟩ s t) := by
  by_cases hx : s.x = 0
  · exact ⟨_, if_pos hx, fun h => absurd hx h, fun _ => ⟨rfl, effect_freeD s _ _ (made_quotientFlags 0xFFFF _ _ _)⟩⟩
  · refine ⟨_, if_neg hx, fun _ => ?_, fun h => absurd h hx⟩
    simp only [State.d, State.setCcr_x, State.setCcr_a, State.setCcr_b, State.setD_x, State.setD_a, State.setD_b,
      State.setX_x, wordOf_hi_lo]
    rw [BitVec.toNat_udiv, BitVec.toNat_umod]
    exact ⟨(Nat.div_add_mod' _ _).symm, Nat.mod_lt _ (Nat.pos_of_ne_zero (toNat_ne_zero hx)),
      effect_setCcr (writer_d.keeps_after (writer_x.keeps s _) _) (made_quotientFlags _ _ _ _)⟩

theorem idivs_does (s : State) : Completes .idivs s fun t =>
    (s.x = 0 → t.ccr.getLsbD 0 = true ∧ SameCcrOutside 0x0F s.ccr t.ccr ∧ Keeps [.ccr, .free] s t) ∧
    (s.d.toInt = -32768 → s.x.toInt = -1 →
      t.ccr.getLsbD 1 = true ∧ t.ccr.getLsbD 0 = false ∧ SameCcrOutside 0x0F s.ccr t.ccr ∧
      Keeps [.a, .b, .x, .ccr, .free] s t) ∧
    (s.x ≠ 0 → ¬ (s.d.toInt = -32768 ∧ s.x.toInt = -1) →
      s.d.toInt = t.x.toInt * s.x.toInt + t.d.toInt ∧ t.d.toInt.natAbs < s.x.toInt.natAbs ∧
      (0 < t.d.toInt → 0 < s.d.toInt) ∧ (t.d.toInt < 0 → s.d.toInt < 0) ∧
      Effect [.a, .b, .x] (.nz t.x (some false) (some false)) s t) := by
  have hiff : (s.d = 0x8000#16 ∧ s.x = 0xFFFF#16) ↔ (s.d.toInt = -32768 ∧ s.x.toInt = -1) :=
    and_congr BitVec.toInt_inj.symm BitVec.toInt_inj.symm
  by_cases hx : s.x = 0
  · refine ⟨divideByZero s, if_pos hx, fun _ => divideByZero_does s, fun _ h => ?_, fun h => absurd hx h⟩
    rw [hx] at h
    exact absurd h (by decide)
  by_cases hover : s.d.toInt = -32768 ∧ s.x.toInt = -1
  · refine ⟨_, (if_neg hx).trans (if_pos (hiff.mpr hover)), fun h => absurd h hx, fun _ _ => ?_,
      fun _ h => absurd hover h⟩
    obtain ⟨hv, hc, hccr, hkeeps⟩ := divideOverflow_does (((s.setX s.freeWord).useFree.setD
      (s.setX s.freeWord).useFree.freeWord).useFree)
    refine ⟨hv, hc, hccr, keeps_mono (keeps_trans (keeps_trans (writer_d.keeps_after (keeps_trans (writer_x.keeps s _)
      (useFree_keeps _)) _) (useFree_keeps _)) hkeeps) (by decide)⟩
  · refine ⟨_, (if_neg hx).trans (if_neg (hiff.not.mpr hover)), fun h => absurd h hx,
      fun h h' => absurd ⟨h, h'⟩ hover, fun _ _ => ?_⟩
    obtain ⟨hlo, hhi⟩ := wordQuotient_fits hover
    obtain ⟨hdiv, hrem, hpos, hneg⟩ := truncatedDivision_fits hx hlo hhi
    simp only [State.setCcr_x, State.setD_x, State.setX_x]
    rw [writer_d.read]
    exact ⟨hdiv, hrem, hpos, hneg,
      effect_setCcr (writer_d.keeps_after (writer_x.keeps s _) _) (made_flagsNZVC _ _ _ _)⟩

theorem fdiv_does (s : State) : Completes .fdiv s fun t =>
    (s.d.toNat < s.x.toNat →
      s.d.toNat * 65536 = t.x.toNat * s.x.toNat + t.d.toNat ∧ t.d.toNat < s.x.toNat ∧
      Effect [.a, .b, .x] ⟨none, none, some (decide (t.x = 0)), some false, some false⟩ s t) ∧
    (s.x.toNat ≤ s.d.toNat → t.x = 0xFFFF ∧
      Effect [.a, .b, .x, .free] ⟨none, none, some false, some true, some (decide (s.x = 0))⟩ s t) := by
  by_cases hle : s.x.toNat ≤ s.d.toNat
  · exact ⟨_, if_pos hle, fun h => absurd hle (Nat.not_le.mpr h),
      fun _ => ⟨rfl, effect_freeD s _ _ (made_quotientFlags 0xFFFF _ _ _)⟩⟩
  · refine ⟨_, if_neg hle, fun hlt => ?_, fun h => absurd h hle⟩
    have hx : s.x ≠ 0 := fun h => hle (by rw [h]; exact Nat.zero_le _)
    have hq : s.d.toNat * 65536 / s.x.toNat ≤ 65535 := by
      refine Nat.le_of_lt_succ ((Nat.div_lt_iff_lt_mul (Nat.pos_of_ne_zero (toNat_ne_zero hx))).mpr ?_)
      omega
    obtain ⟨hdiv, hrem⟩ := natDivision_fits hx hq
    simp only [State.setCcr_x, State.setD_x, State.setX_x]
    rw [writer_d.read]
    exact ⟨hdiv, hrem, effect_setCcr (writer_d.keeps_after (writer_x.keeps s _) _) (made_quotientFlags _ _ _ _)⟩

/-- Settles O36. -/
theorem divisions : Obligations.Divisions :=
  ⟨fun s => ⟨ediv_does s, edivs_does s⟩, fun s => ⟨idiv_does s, idivs_does s, fdiv_does s⟩⟩

end Sys2Proof.Machine
end

section
/-! Minimum, maximum and table interpolation (46_mul_div_minmax_table.md R660 to R671): a selection as the maximum or minimum of
two numbers, an interpolation as a rounded product that lies between the entries. Settles O37 and O38. -/

namespace Sys2Proof.Machine

open Sys2Proof Sys2Proof.Safety

/-! ### Selections (46_mul_div_minmax_table.md R660) -/

theorem subBorrow_false {w : Nat} (x m : BitVec w) : subBorrow x m false = decide (x.toNat < m.toNat) := rfl

theorem toNat_larger {w : Nat} (x m : BitVec w) : (larger x m).toNat = max x.toNat m.toNat := by
  rw [larger, subBorrow_false]
  by_cases h : x.toNat < m.toNat
  · rw [decide_eq_true h, if_pos rfl, max_eq_right h.le]
  · rw [decide_eq_false h, if_neg Bool.false_ne_true, max_eq_left (not_lt.mp h)]

theorem toNat_smaller {w : Nat} (x m : BitVec w) : (smaller x m).toNat = min x.toNat m.toNat := by
  rw [smaller, subBorrow_false]
  by_cases h : x.toNat < m.toNat
  · rw [decide_eq_true h, if_pos rfl, min_eq_left h.le]
  · rw [decide_eq_false h, if_neg Bool.false_ne_true, min_eq_right (not_lt.mp h)]

theorem larger_eq_ofNat {w : Nat} (x m : BitVec w) : larger x m = BitVec.ofNat w (max x.toNat m.toNat) := by
  rw [← toNat_larger, BitVec.ofNat_toNat, BitVec.setWidth_eq]

theorem smaller_eq_ofNat {w : Nat} (x m : BitVec w) : smaller x m = BitVec.ofNat w (min x.toNat m.toNat) := by
  rw [← toNat_smaller, BitVec.ofNat_toNat, BitVec.setWidth_eq]

/-- The flags of register minus memory, the register as it was before the operand was formed. -/
theorem made_selectFlags8 (i : Idx) (s : State) (m : Byte) : (differenceFlags s.a m (s.a - m) 0).Made s.ccr
    (subFlags (i.update s).a m false (i.update s).ccr) := by
  have h := made_subFlags8 s.a m false s.ccr
  simpa [subResult, carryIn] using h

theorem made_selectFlags16 (i : Idx) (s : State) (m : Word) : (differenceFlags s.d m (s.d - m) 0).Made s.ccr
    (subFlags (i.update s).d m false (i.update s).ccr) := by
  have h := made_subFlags16 s.d m false s.ccr
  simpa [subResult, carryIn, State.d] using h

theorem select8_does {choose : Byte → Byte → Byte} {number : Nat → Nat → Nat}
    (hchoose : ∀ x m, (choose x m).toNat = number x.toNat m.toNat) (i : Idx) (s : State) :
    (select8 choose i s).a.toNat = number s.a.toNat (s.readByte (i.addr s s.pc)).toNat ∧
    (differenceFlags s.a (s.readByte (i.addr s s.pc)) (s.a - s.readByte (i.addr s s.pc)) 0).Made s.ccr
      (select8 choose i s).ccr ∧
    Keeps [.a, .ccr] (i.update s) (select8 choose i s) := by
  refine ⟨?_, made_selectFlags8 i s _, keeps_mono (keeps_trans (writer_a.keeps _ _) (setCcr_keeps _ _)) (by decide)⟩
  rw [← hchoose, ← IdxUpdate_a i s]
  rfl

theorem select16_does {choose : Word → Word → Word} {number : Nat → Nat → Nat}
    (hchoose : ∀ x m, (choose x m).toNat = number x.toNat m.toNat) (i : Idx) (s : State) :
    (select16 choose i s).d.toNat = number s.d.toNat (s.readWord (i.addr s s.pc)).toNat ∧
    (differenceFlags s.d (s.readWord (i.addr s s.pc)) (s.d - s.readWord (i.addr s s.pc)) 0).Made s.ccr
      (select16 choose i s).ccr ∧
    Keeps [.a, .b, .ccr] (i.update s) (select16 choose i s) := by
  have hd : (i.update s).d = s.d := by simp [State.d]
  refine ⟨?_, made_selectFlags16 i s _, keeps_mono (keeps_trans (writer_d.keeps _ _) (setCcr_keeps _ _)) (by decide)⟩
  rw [← hchoose, ← hd]
  exact congrArg BitVec.toNat (writer_d.read _ _ _)

theorem selectMemory8_does {choose : Byte → Byte → Byte} {number : Nat → Nat → Nat}
    (hchoose : ∀ x m, choose x m = BitVec.ofNat 8 (number x.toNat m.toNat)) (i : Idx) {s : State} (hm : MemoryForm s) :
    StoresByte [.ccr] (i.update s) (selectMemory8 choose i s) (i.addr s s.pc)
      (BitVec.ofNat 8 (number s.a.toNat (s.readByte (i.addr s s.pc)).toNat)) ∧
    (differenceFlags s.a (s.readByte (i.addr s s.pc)) (s.a - s.readByte (i.addr s s.pc)) 0).Made s.ccr
      (selectMemory8 choose i s).ccr := by
  rw [← hchoose, ← IdxUpdate_a i s]
  exact ⟨stores_writeByte_setCcr _ _ _ _ (memoryForm_update (by simp) hm), by
    rw [IdxUpdate_a]; exact made_selectFlags8 i s _⟩

theorem selectMemory16_does {choose : Word → Word → Word} {number : Nat → Nat → Nat}
    (hchoose : ∀ x m, choose x m = BitVec.ofNat 16 (number x.toNat m.toNat)) (i : Idx) {s : State} (hm : MemoryForm s) :
    StoresWord [.ccr] (i.update s) (selectMemory16 choose i s) (i.addr s s.pc)
      (BitVec.ofNat 16 (number s.d.toNat (s.readWord (i.addr s s.pc)).toNat)) ∧
    (differenceFlags s.d (s.readWord (i.addr s s.pc)) (s.d - s.readWord (i.addr s s.pc)) 0).Made s.ccr
      (selectMemory16 choose i s).ccr := by
  have hd : (i.update s).d = s.d := by simp [State.d]
  rw [← hchoose]
  exact ⟨hd ▸ stores_writeWord_setCcr _ _ _ _ (memoryForm_update (by simp) hm), made_selectFlags16 i s _⟩

/-- Settles O37: each instruction is one of the four selections with the maximum or the minimum. -/
theorem minimumMaximum : Obligations.MinimumMaximum := by
  intro i s hm
  exact ⟨⟨_, rfl, select8_does toNat_larger i s⟩, ⟨_, rfl, select8_does toNat_smaller i s⟩,
    ⟨_, rfl, select16_does toNat_larger i s⟩, ⟨_, rfl, select16_does toNat_smaller i s⟩,
    ⟨_, rfl, selectMemory8_does larger_eq_ofNat i hm⟩,
    ⟨_, rfl, selectMemory8_does smaller_eq_ofNat i hm⟩, ⟨_, rfl, selectMemory16_does larger_eq_ofNat i hm⟩,
    ⟨_, rfl, selectMemory16_does smaller_eq_ofNat i hm⟩⟩

/-! ### Table interpolation (46_mul_div_minmax_table.md R669, 92 D22) -/

/-- A fraction of a difference, rounded down, lies between zero and the difference. -/
theorem fraction_between (b : Byte) (d : Int) : min 0 d ≤ (b.toNat : Int) * d / 256 ∧ (b.toNat : Int) * d / 256 ≤ max 0 d := by
  have hb : (b.toNat : Int) < 256 := by exact_mod_cast b.isLt
  have hb0 : (0 : Int) ≤ b.toNat := Int.natCast_nonneg _
  rcases le_total 0 d with hd | hd
  · have hlo : (0 : Int) ≤ b.toNat * d := mul_nonneg hb0 hd
    have hhi : (b.toNat : Int) * d ≤ 256 * d := mul_le_mul_of_nonneg_right hb.le hd
    omega
  · have hlo : 256 * d ≤ (b.toNat : Int) * d := mul_le_mul_of_nonpos_right hb.le hd
    have hhi : (b.toNat : Int) * d ≤ 0 := mul_nonpos_of_nonneg_of_nonpos hb0 hd
    omega

/-- The interpolation needs no more bits than its entries. -/
theorem toNat_interpolate {w : Nat} (y1 y2 : BitVec w) (b : Byte) :
    ((interpolate y1 y2 b).toNat : Int) = y1.toNat + (b.toNat : Int) * ((y2.toNat : Int) - y1.toNat) / 256 ∧
    min (y1.toNat : Int) y2.toNat ≤ (interpolate y1 y2 b).toNat ∧
    ((interpolate y1 y2 b).toNat : Int) ≤ max (y1.toNat : Int) y2.toNat := by
  obtain ⟨hlo, hhi⟩ := fraction_between b ((y2.toNat : Int) - y1.toNat)
  have h1 : (y1.toNat : Int) < ((2 ^ w : Nat) : Int) := by exact_mod_cast y1.isLt
  have h2 : (y2.toNat : Int) < ((2 ^ w : Nat) : Int) := by exact_mod_cast y2.isLt
  have hvalue : ((interpolate y1 y2 b).toNat : Int) =
      y1.toNat + (b.toNat : Int) * ((y2.toNat : Int) - y1.toNat) / 256 := by
    rw [interpolate, BitVec.toNat_ofInt, Int.toNat_of_nonneg (Int.emod_nonneg _ (by omega))]
    exact Int.emod_eq_of_lt (by omega) (by omega)
  exact ⟨hvalue, by omega, by omega⟩

/-- N and Z of the interpolation, C from bit 7 of the product. -/
theorem effect_interpolate {get : State → BitVec w} {set : State → BitVec w → State} {fields : List Field}
    (hset : Writer get set fields) (i : Idx) (s : State) (y1 y2 : BitVec w) :
    Effect fields (.nz (interpolate y1 y2 s.b) none
        (some (decide (128 ≤ (s.b.toNat : Int) * ((y2.toNat : Int) - y1.toNat) % 256))))
      (i.update s) ((set (i.update s) (interpolate y1 y2 s.b)).setCcr
        (putFlag 0 (interpolateCarry y1 y2 s.b) (flagsNZ (interpolate y1 y2 s.b) (i.update s).ccr))) :=
  hset.effect_made _ (made_putC _ _ _ _ (made_flagsNZ _ _))

/-- Settles O38: the byte and the word form are one interpolation on their width. -/
theorem tableInterpolation : Obligations.TableInterpolation := by
  intro i s hi
  refine ⟨⟨_, if_pos hi, ?tbl⟩, ⟨_, if_pos hi, ?etbl⟩⟩
  case tbl =>
    obtain ⟨hvalue, hlo, hhi⟩ := toNat_interpolate (s.readByte (i.addr s s.pc)) (s.readByte (i.addr s s.pc + 1)) s.b
    exact ⟨hvalue, hlo, hhi, effect_interpolate writer_a i s _ _⟩
  case etbl =>
    obtain ⟨hvalue, hlo, hhi⟩ := toNat_interpolate (s.readWord (i.addr s s.pc)) (s.readWord (i.addr s s.pc + 2)) s.b
    dsimp only
    rw [writer_d.read]
    exact ⟨hvalue, hlo, hhi, effect_interpolate writer_d i s _ _⟩

end Sys2Proof.Machine
end

section
/-! Branches and loop primitives (47_branch_loop_jump.md R700 to R702, R739 to R748): a condition over N, Z, V and C, what it says
after a compare, a condition over the bits of a byte, and one over a counter. Settles O39, O40, O41 and O42. -/

namespace Sys2Proof.Machine

open Sys2Proof Sys2Proof.Safety

/-! ### Branches on the condition codes (47_branch_loop_jump.md R702) -/

/-- The short and the long branch on one condition. -/
theorem branches {short : Byte → Instr} {long : Word → Instr} {taken : Bool → Bool → Bool → Bool → Bool} (k : Cond)
    (hshort : ∀ rel s, exec (short rel) s = .next (s.branchIf (k.holds s.ccr) (s.pc + sext8 rel)))
    (hlong : ∀ rel s, exec (long rel) s = .next (s.branchIf (k.holds s.ccr) (s.pc + rel)))
    (hholds : ∀ ccr : Byte,
      k.holds ccr = taken (ccr.getLsbD 3) (ccr.getLsbD 2) (ccr.getLsbD 1) (ccr.getLsbD 0)) : Branches short long taken := by
  intro s
  dsimp only
  rw [← hholds]
  exact ⟨fun rel => ⟨_, hshort rel s, branchIf_does s _ _⟩, fun rel => ⟨_, hlong rel s, branchIf_does s _ _⟩⟩

theorem not_xor_eq_beq (n v : Bool) : (!(n ^^ v)) = (n == v) := by cases n <;> cases v <;> rfl

theorem holds_gt (z n v : Bool) : (!(z || (n ^^ v))) = (!z && n == v) := by rw [Bool.not_or, not_xor_eq_beq]

/-- Settles O39: each pair of branches on its condition, written as R702 writes it. -/
theorem branchesTestConditions : Obligations.BranchesTestConditions :=
  ⟨branches .always (fun _ _ => rfl) (fun _ _ => rfl) fun _ => rfl,
    branches .never (fun _ _ => rfl) (fun _ _ => rfl) fun _ => rfl,
    branches .hi (fun _ _ => rfl) (fun _ _ => rfl) fun _ => Bool.not_or _ _,
    branches .ls (fun _ _ => rfl) (fun _ _ => rfl) fun _ => rfl,
    branches .cc (fun _ _ => rfl) (fun _ _ => rfl) fun _ => rfl,
    branches .cc (fun _ _ => rfl) (fun _ _ => rfl) fun _ => rfl,
    branches .cs (fun _ _ => rfl) (fun _ _ => rfl) fun _ => rfl,
    branches .cs (fun _ _ => rfl) (fun _ _ => rfl) fun _ => rfl,
    branches .ne (fun _ _ => rfl) (fun _ _ => rfl) fun _ => rfl,
    branches .eq (fun _ _ => rfl) (fun _ _ => rfl) fun _ => rfl,
    branches .vc (fun _ _ => rfl) (fun _ _ => rfl) fun _ => rfl,
    branches .vs (fun _ _ => rfl) (fun _ _ => rfl) fun _ => rfl,
    branches .pl (fun _ _ => rfl) (fun _ _ => rfl) fun _ => rfl,
    branches .mi (fun _ _ => rfl) (fun _ _ => rfl) fun _ => rfl,
    branches .ge (fun _ _ => rfl) (fun _ _ => rfl) fun _ => not_xor_eq_beq _ _,
    branches .lt (fun _ _ => rfl) (fun _ _ => rfl) fun _ => rfl,
    branches .gt (fun _ _ => rfl) (fun _ _ => rfl) fun _ => holds_gt _ _ _,
    branches .le (fun _ _ => rfl) (fun _ _ => rfl) fun _ => rfl⟩

/-! ### Branches after a compare (47_branch_loop_jump.md R702, last column) -/

/-- What C, Z and N exclusive or V say after CMPA (42 R352). -/
theorem cmpa_flags {src : Src8} {s t : State} (h : exec (.cmpa src) s = .next t) :
    t.ccr.getLsbD 0 = decide (s.a.toNat < (src.value s).toNat) ∧
    t.ccr.getLsbD 2 = decide (s.a = src.value s) ∧
    (t.ccr.getLsbD 3 != t.ccr.getLsbD 1) = decide (s.a.toInt < (src.value s).toInt) := by
  obtain ⟨hcmpa, -⟩ := comparesSetFlagsOnly
  obtain ⟨u, hu, r, hr, -, -, hflags⟩ := hcmpa src s
  obtain rfl : u = t := Host.Outcome.next.inj (hu.symm.trans h)
  generalize src.value s = m at *
  obtain ⟨-, -, -, -, hn, hz, hv, hc⟩ := hflags
  replace hn : u.ccr.getLsbD 3 = decide (r.toInt < 0) := hn
  replace hz : u.ccr.getLsbD 2 = decide (r.toNat = 0) := hz
  replace hv : u.ccr.getLsbD 1 = decide (s.a.toInt - m.toInt - 0 < -128 ∨ 128 ≤ s.a.toInt - m.toInt - 0) := hv
  have hsx := sign8 s.a
  have hsm := sign8 m
  have hsr := sign8 r
  have heq : s.a = m ↔ s.a.toNat = m.toNat := BitVec.toNat_inj.symm
  refine ⟨hc, ?_, ?_⟩
  · rw [hz, decide_eq_decide, heq]
    omega
  · rw [hn, hv, Bool.eq_iff_iff, bne_iff_ne, ne_eq, decide_eq_decide, decide_eq_true_iff]
    omega

/-- A short branch goes exactly when what its condition says holds. -/
theorem goes_of_branches {short : Byte → Instr} {long : Word → Instr} {taken : Bool → Bool → Bool → Bool → Bool}
    (h : Branches short long taken) (t : State) (rel : Byte) {relation : Prop}
    (hrel : taken (t.ccr.getLsbD 3) (t.ccr.getLsbD 2) (t.ccr.getLsbD 1) (t.ccr.getLsbD 0) = true ↔ relation) :
    Completes (short rel) t fun u =>
      (relation → u.pc = t.pc + rel.signExtend 16) ∧ (¬ relation → u.pc = t.pc) := by
  obtain ⟨hshort, -⟩ := h t
  obtain ⟨u, hu, hpc, -⟩ := hshort rel
  exact ⟨u, hu, fun hr => hpc.trans (if_pos (hrel.mpr hr)), fun hr => hpc.trans (if_neg (hrel.not.mpr hr))⟩

/-- Settles O40: each condition of R702 read off the three facts of `cmpa_flags`. -/
theorem compareThenBranch : Obligations.CompareThenBranch := by
  intro src s t rel h
  obtain ⟨hc, hz, hnv⟩ := cmpa_flags h
  obtain ⟨-, -, hi, ls, -, hs, -, lo, ne, eq, -, -, -, -, ge, lt, gt, le⟩ := branchesTestConditions
  have heqNat : s.a = src.value s ↔ s.a.toNat = (src.value s).toNat := BitVec.toNat_inj.symm
  have heqInt : s.a = src.value s ↔ s.a.toInt = (src.value s).toInt := BitVec.toInt_inj.symm
  have hnv' : (t.ccr.getLsbD 3 == t.ccr.getLsbD 1) = !decide (s.a.toInt < (src.value s).toInt) := by
    rw [← hnv, bne, Bool.not_not]
  refine ⟨goes_of_branches hi t rel ?_, goes_of_branches ls t rel ?_,
    goes_of_branches hs t rel ?_, goes_of_branches lo t rel ?_,
    goes_of_branches ne t rel ?_, goes_of_branches eq t rel ?_, goes_of_branches ge t rel ?_, goes_of_branches lt t rel ?_,
    goes_of_branches gt t rel ?_, goes_of_branches le t rel ?_⟩
  · simp only [hc, hz, heqNat, Bool.and_eq_true, Bool.not_eq_true', decide_eq_false_iff_not]
    omega
  · simp only [hc, hz, heqNat, Bool.or_eq_true, decide_eq_true_iff]
    omega
  · simp only [hc, Bool.not_eq_true', decide_eq_false_iff_not, not_lt]
  · simp only [hc, decide_eq_true_iff]
  · simp only [hz, Bool.not_eq_true', decide_eq_false_iff_not, ne_eq]
  · simp only [hz, decide_eq_true_iff]
  · simp only [hnv', Bool.not_eq_true', decide_eq_false_iff_not, not_lt]
  · simp only [hnv, decide_eq_true_iff]
  · simp only [hnv', hz, heqInt, Bool.and_eq_true, Bool.not_eq_true', decide_eq_false_iff_not]
    omega
  · simp only [hnv, hz, heqInt, Bool.or_eq_true, decide_eq_true_iff]
    omega

/-! ### Branches on bits (47_branch_loop_jump.md R739, R740) -/

theorem and_eq_zero_iff (m mask : Byte) :
    (m &&& mask == 0#8) = true ↔ ∀ k < 8, mask.getLsbD k = true → m.getLsbD k = false := by
  rw [beq_iff_eq]
  constructor
  · intro h k _ hmask
    have hbit := congrArg (·.getLsbD k) h
    simpa only [BitVec.getLsbD_and, hmask, Bool.and_true, BitVec.getLsbD_zero] using hbit
  · intro h
    apply BitVec.eq_of_getLsbD_eq
    intro k hk
    rw [BitVec.getLsbD_and, BitVec.getLsbD_zero]
    cases hmask : mask.getLsbD k with
    | false => rw [Bool.and_false]
    | true => rw [h k hk hmask, Bool.false_and]

theorem not_and_eq_zero_iff (m mask : Byte) :
    (~~~m &&& mask == 0#8) = true ↔ ∀ k < 8, mask.getLsbD k = true → m.getLsbD k = true := by
  rw [and_eq_zero_iff]
  refine forall_congr' fun k => forall_congr' fun hk => ?_
  rw [BitVec.getLsbD_not, decide_eq_true hk, Bool.true_and, Bool.not_eq_false']

/-- A branch on bits goes exactly when its test holds; the index register is updated either way. -/
theorem branchOnBits_does (test : Byte → Bool) {ea : Ea} (hdirect : ea.isDirect = true) (rel : Byte) (s : State) :
    ∃ t, branchOnBits test ea rel s = .next t ∧ Keeps [.pc, .stale] (ea.update s) t ∧
      (test (s.readByte (ea.addr s)) = true → t.pc = s.pc + rel.signExtend 16) ∧
      (¬ test (s.readByte (ea.addr s)) = true → t.pc = s.pc) := by
  obtain ⟨hpc, hkeeps⟩ := branchIf_does (ea.update s) (test (s.readByte (ea.addr s))) (s.pc + sext8 rel)
  rw [EaUpdate_pc] at hpc
  exact ⟨_, if_pos hdirect, hkeeps, fun h => hpc.trans (if_pos h), fun h => hpc.trans (if_neg h)⟩

/-- Settles O41: `branchOnBits_does` with the two tests read bit by bit. -/
theorem branchesOnBits : Obligations.BranchesOnBits := by
  intro ea mask rel s
  refine ⟨fun hdirect => ⟨?clear, ?set⟩, fun hindirect => ?indirect⟩
  case clear =>
    obtain ⟨t, ht, hkeeps, hgo, hstay⟩ := branchOnBits_does (fun m => m &&& mask == 0#8) hdirect rel s
    refine ⟨t, ht, hkeeps, fun h => hgo ((and_eq_zero_iff _ _).mpr h), ?_⟩
    rintro ⟨k, hk, hmask, hbit⟩
    exact hstay fun h => Bool.false_ne_true (((and_eq_zero_iff _ _).mp h k hk hmask).symm.trans hbit)
  case set =>
    obtain ⟨t, ht, hkeeps, hgo, hstay⟩ := branchOnBits_does (fun m => ~~~m &&& mask == 0#8) hdirect rel s
    refine ⟨t, ht, hkeeps, fun h => hgo ((not_and_eq_zero_iff _ _).mpr h), ?_⟩
    rintro ⟨k, hk, hmask, hbit⟩
    exact hstay fun h => Bool.false_ne_true (hbit.symm.trans ((not_and_eq_zero_iff _ _).mp h k hk hmask))
  case indirect =>
    have hnot : ¬ ea.isDirect = true := fun h => Bool.false_ne_true (hindirect.symm.trans h)
    exact ⟨if_neg hnot, if_neg hnot⟩

/-! ### Loop primitives (47_branch_loop_jump.md R741) -/

theorem toNat_add_ofInt {w : Nat} (x : BitVec w) (delta : Int) :
    ((x + BitVec.ofInt w delta).toNat : Int) = ((x.toNat : Int) + delta) % (2 ^ w : Nat) := by
  have hpos : (0 : Int) < (2 ^ w : Nat) := by exact_mod_cast Nat.two_pow_pos w
  rw [BitVec.toNat_add, BitVec.toNat_ofInt]
  push_cast
  rw [Int.toNat_of_nonneg (Int.emod_nonneg _ (by exact_mod_cast hpos.ne')), Int.add_emod_emod]

/-- The counter after its change, as a number. -/
theorem counterValue_addCounter (s : State) (c : Ctr) (delta : Int) :
    (counterValue (s.addCounter c delta) c : Int) = ((counterValue s c : Int) + delta) % counterSize c := by
  cases c
  case d =>
    show ((s.setD (s.d + BitVec.ofInt 16 delta)).d.toNat : Int) = _
    rw [State.setD_d]
    exact toNat_add_ofInt _ delta
  all_goals exact toNat_add_ofInt _ delta

theorem addCounter_keeps (s : State) (c : Ctr) (delta : Int) : Keeps (counterFields c) s (s.addCounter c delta) := by
  cases c
  · exact writer_a.keeps s _
  · exact writer_b.keeps s _
  · exact writer_d.keeps s _
  · exact writer_x.keeps s _
  · exact writer_y.keeps s _
  · exact writer_sp.keeps s _

theorem addCounter_pc (s : State) (c : Ctr) (delta : Int) : (s.addCounter c delta).pc = s.pc := by cases c <;> rfl

theorem counterValue_branchIf (s : State) (taken : Bool) (target : Word) (c : Ctr) :
    counterValue (s.branchIf taken target) c = counterValue s c := by
  cases taken <;> cases c <;> rfl

theorem loops {i : Ctr → BitVec 9 → Instr} {delta : Int} {whenZero : Bool}
    (hi : ∀ c rel s, exec (i c rel) s = .next (loopOn delta whenZero c rel s)) : Loops i delta whenZero := by
  intro c rel s
  have hvalue : counterValue (loopOn delta whenZero c rel s) c = counterValue (s.addCounter c delta) c :=
    counterValue_branchIf _ _ _ c
  obtain ⟨hpc, hkeeps⟩ := branchIf_does (s.addCounter c delta) ((s.addCounter c delta).counterZero c == whenZero)
    (s.pc + rel.signExtend 16)
  refine ⟨_, hi c rel s, ?_, ?_, keeps_trans (addCounter_keeps s c delta) hkeeps⟩
  · rw [hvalue]
    exact counterValue_addCounter s c delta
  · refine hpc.trans ?_
    rw [counterZero_iff, addCounter_pc, hvalue]
    simp only [beq_iff_eq]

/-- Settles O42: the six primitives are `loopOn` with their change and their test. -/
theorem loopPrimitives : Obligations.LoopPrimitives :=
  ⟨loops fun _ _ _ => rfl, loops fun _ _ _ => rfl, loops fun _ _ _ => rfl, loops fun _ _ _ => rfl,
    loops fun _ _ _ => rfl, loops fun _ _ _ => rfl⟩

end Sys2Proof.Machine
end

section
/-! A stack in RAM (20_memory.md R62): what a push leaves to be read, of the pushed bytes and of the others. -/

namespace Sys2Proof.Machine

open Sys2Proof Sys2Proof.Safety

section Stack

variable {s : State}

theorem isRam_of_stackIsRam {n : Nat} (h : StackIsRam s n) {k : Nat} (hk : 1 ≤ k) (hn : k ≤ n) :
    IsRam s (s.sp - BitVec.ofNat 16 k) := by
  have hram := h (k - 1) (by omega)
  rwa [Nat.sub_add_cancel hk] at hram

theorem stackIsRam_mono {m n : Nat} (h : StackIsRam s n) (hmn : m ≤ n) : StackIsRam s m :=
  fun k hk => h k (Nat.lt_of_lt_of_le hk hmn)

theorem pushByte_written (h : IsRam s (s.sp - 1)) (v : Byte) : Written s (s.pushByte v) [(s.sp - 1, v)] :=
  ((Written.refl s).setSp (s.sp - 1)).byte _ v h

theorem pushWord_written (h : StackIsRam s 2) (v : Word) :
    Written s (s.pushWord v) [(s.sp - 2, hiByte v), (s.sp - 2 + 1, loByte v)] := by
  have hhigh : IsRam s (s.sp - 2) := isRam_of_stackIsRam h (k := 2) (by decide) (by decide)
  have hlow : IsRam s (s.sp - 2 + 1) := by
    rw [show s.sp - 2 + 1 = s.sp - 1 by ring]
    exact isRam_of_stackIsRam h (k := 1) (by decide) (by decide)
  exact (Written.refl s).word v hhigh hlow

theorem readByte_pushByte (hm : MemoryForm s) (h : IsRam s (s.sp - 1)) (v : Byte) :
    (s.pushByte v).readByte (s.sp - 1) = v :=
  readByte_writeByte_same (s := s.setSp (s.sp - 1)) hm h v

theorem readByte_pushByte_ne (h : IsRam s (s.sp - 1)) {b : Word} (hb : IsRam s b) (hne : b ≠ s.sp - 1) (v : Byte) :
    (s.pushByte v).readByte b = s.readByte b :=
  readByte_writeByte_ne (s := s.setSp (s.sp - 1)) h hb hne v

theorem readWord_pushWord (hm : MemoryForm s) (h : StackIsRam s 2) (v : Word) : (s.pushWord v).readWord (s.sp - 2) = v := by
  have hhigh : IsRam s (s.sp - 2) := isRam_of_stackIsRam h (k := 2) (by decide) (by decide)
  have hlow : IsRam s (s.sp - 2 + 1) := by
    rw [show s.sp - 2 + 1 = s.sp - 1 by ring]
    exact isRam_of_stackIsRam h (k := 1) (by decide) (by decide)
  obtain ⟨hread, hread'⟩ := readByte_writeWord (s := s.setSp (s.sp - 2)) hm hhigh hlow v
  calc (s.pushWord v).readWord (s.sp - 2)
      = wordOf (hiByte v) (loByte v) := congrArg₂ wordOf hread hread'
    _ = v := wordOf_hi_lo v

theorem readByte_pushWord_ne (h : StackIsRam s 2) {b : Word} (hb : IsRam s b) (hne : b ≠ s.sp - 2)
    (hne' : b ≠ s.sp - 1) (v : Word) : (s.pushWord v).readByte b = s.readByte b := by
  have hhigh : IsRam s (s.sp - 2) := isRam_of_stackIsRam h (k := 2) (by decide) (by decide)
  have hlow : IsRam s (s.sp - 1) := isRam_of_stackIsRam h (k := 1) (by decide) (by decide)
  have hnext : s.sp - 2 + 1 = s.sp - 1 := by ring
  have hram {a : Word} (ha : IsRam s a) : IsRam ((s.setSp (s.sp - 2)).writeByte (s.sp - 2) (hiByte v)) a :=
    isRam_writeByte (s := s.setSp (s.sp - 2)) hhigh ha _
  calc (s.pushWord v).readByte b
      = ((s.setSp (s.sp - 2)).writeByte (s.sp - 2) (hiByte v)).readByte b :=
        readByte_writeByte_ne (hram (hnext ▸ hlow)) (hram hb) (hnext ▸ hne') _
    _ = s.readByte b := readByte_writeByte_ne (s := s.setSp (s.sp - 2)) hhigh hb hne _

/-- A push leaves the rest of a stack in RAM. -/
theorem stackIsRam_pushWord {n : Nat} (h : StackIsRam s (n + 2)) (v : Word) : StackIsRam (s.pushWord v) n := by
  intro k hk
  have hwritten := pushWord_written (stackIsRam_mono h (by omega)) v
  have hram := isRam_of_stackIsRam h (k := k + 1 + 2) (by omega) (by omega)
  rw [State.pushWord_sp]
  refine hwritten.ram _ ?_
  have hsub : s.sp - BitVec.ofNat 16 (k + 1 + 2) = s.sp - 2 - BitVec.ofNat 16 (k + 1) := by
    rw [BitVec.ofNat_add]
    show s.sp - (BitVec.ofNat 16 (k + 1) + 2) = _
    ring
  rwa [hsub] at hram

end Stack

end Sys2Proof.Machine
end

section
/-! Jumps, subroutines and calls (47_branch_loop_jump.md R749 to R754): where PC goes, what the stack holds, and that a return
undoes its call. Settles O43, O44 and O45. -/

namespace Sys2Proof.Machine

open Sys2Proof Sys2Proof.Safety

theorem jumpTo_keeps (s : State) (target : Word) : Keeps [.pc, .stale] s (s.jumpTo target) :=
  ⟨jumpTo_same s target, fun _ _ => rfl⟩

theorem setPpage_keeps (s : State) (v : Byte) : Keeps [.ppage] s (s.setPpage v) := by
  refine ⟨fun f hf => ?_, fun _ _ => rfl⟩
  cases f
  case ppage => exact absurd (List.mem_singleton.mpr rfl) hf
  all_goals rfl

theorem pageField_not_mem_flow (r : PageReg) : pageField r ∉ [Field.pc, Field.stale] := by cases r <;> decide

/-- A word pushed, then a change of flow (47 R750, R751). -/
theorem pushThenJump_does {s : State} (hm : MemoryForm s) (v target : Word) :
    ((s.pushWord v).jumpTo target).pc = target ∧ ((s.pushWord v).jumpTo target).sp = s.sp - 2 ∧
    StoresWord [.pc, .stale] (s.setSp (s.sp - 2)) ((s.pushWord v).jumpTo target) (s.sp - 2) v := by
  obtain ⟨hsp, hstores⟩ := pushWord_does s v hm
  exact ⟨rfl, hsp, storesWord_then hstores (jumpTo_same _ target) rfl pageField_not_mem_flow⟩

/-- Settles O43: JSR and BSR by `pushThenJump_does`. -/
theorem jumpsAndSubroutines : Obligations.JumpsAndSubroutines :=
  ⟨fun _ _ => ⟨_, rfl, rfl, jumpTo_keeps _ _⟩,
    fun target s hm => ⟨_, rfl, pushThenJump_does (memoryForm_update (EaUpdate_mem target s) hm) _ _⟩,
    fun _ _ hm => ⟨_, rfl, pushThenJump_does hm _ _⟩,
    fun s => ⟨_, rfl, rfl, rfl, keeps_trans (drop_keeps s 2) (jumpTo_keeps _ _)⟩⟩

/-! ### Calls (47_branch_loop_jump.md R752, R753) -/

theorem callTo_does {u : State} (hm : MemoryForm u) (addr : Word) (page : Byte) : ∃ m n : State,
    (callTo addr page u).pc = addr ∧ (callTo addr page u).ppage = page ∧ (callTo addr page u).sp = u.sp - 3 ∧
    StoresWord [] (u.setSp (u.sp - 2)) m (u.sp - 2) u.pc ∧
    StoresByte [] (m.setSp (u.sp - 3)) n (u.sp - 3) u.ppage ∧ Keeps [.pc, .ppage, .stale] n (callTo addr page u) := by
  obtain ⟨hsp, hword⟩ := pushWord_does u u.pc hm
  obtain ⟨hsp', hbyte⟩ := pushByte_does (u.pushWord u.pc) u.ppage (u.wf_pushWord u.pc hm)
  rw [hsp, show u.sp - 2 - 1 = u.sp - 3 by ring] at hsp' hbyte
  exact ⟨u.pushWord u.pc, (u.pushWord u.pc).pushByte u.ppage, rfl, rfl, hsp', hword, hbyte,
    keeps_mono (keeps_trans (setPpage_keeps _ page) (jumpTo_keeps _ addr)) (by decide)⟩

/-- The word that an indirect operand's pointer names is its effective address (31_indexed_postbyte.md R146, R151). -/
theorem addr_of_indirect {i : Idx} (hi : i.isDirect = false) (s : State) (ref : Word) :
    i.addr s ref = s.readWord (i.pointer s ref) := by
  cases i with
  | ind16 r n | indD r => rfl
  | off5 | auto | off9 | off16 | acc => exact absurd hi (by simp [Idx.isDirect])

theorem rtc_does (s : State) : Completes .rtc s fun t =>
    t.ppage = s.readByte s.sp ∧ t.sp = s.sp + 3 ∧
    t.pc = ((s.setSp (s.sp + 1)).setPpage (s.readByte s.sp)).readWord (s.sp + 1) ∧
    Keeps [.ppage, .sp, .pc, .stale] s t :=
  ⟨_, rfl, rfl, show s.sp + 1 + 2 = s.sp + 3 by ring, rfl,
    keeps_mono (keeps_trans (keeps_trans (keeps_trans (drop_keeps s 1) (setPpage_keeps _ _)) (drop_keeps _ 2))
      (jumpTo_keeps _ _)) (by decide)⟩

/-- Settles O44: each form of CALL is `callTo` with its own address and page. -/
theorem callsAndReturns : Obligations.CallsAndReturns := by
  refine ⟨fun target s hm hwf => ?_, rtc_does⟩
  cases target with
  | ext addr page => exact ⟨s, addr, page, ⟨rfl, rfl, rfl⟩, _, rfl, callTo_does hm addr page⟩
  | idx i page =>
    obtain ⟨m, n, hcall⟩ := callTo_does (memoryForm_update (IdxUpdate_mem i s) hm) (i.addr s s.pc) page
    rw [IdxUpdate_pc] at hcall
    exact ⟨i.update s, i.addr s s.pc, page, ⟨rfl, rfl, rfl⟩, _, if_pos hwf, m, n, hcall⟩
  | ind i =>
    have hindirect : i.isDirect = false := (Bool.not_eq_true' _).mp hwf
    exact ⟨s, i.addr s s.pc, s.readByte (i.pointer s s.pc + 2), ⟨rfl, addr_of_indirect hindirect s s.pc, rfl⟩, _,
      if_neg (Bool.eq_false_iff.mp hindirect), callTo_does hm _ _⟩

/-! ### Returns undo calls (47_branch_loop_jump.md R753, R754) -/

/-- A field that ends as it began does not count as changed. -/
theorem sameExcept_restore {fs gs : List Field} {s u : State} (h : SameExcept fs s u)
    (hr : ∀ f ∈ fs, f ∉ gs → f.Same s u) : SameExcept gs s u := by
  intro f hf
  by_cases hmem : f ∈ fs
  · exact hr f hmem hf
  · exact h f hmem

/-- RTS after JSR: the pushed word is read back, SP is where it was. -/
theorem rts_after_jsr {s : State} (hm : MemoryForm s) (hs : StackIsRam s 2) (addr : Word) :
    Completes .rts ((s.pushWord s.pc).jumpTo addr) fun u => u.pc = s.pc ∧ SameExcept [.stale] s u := by
  have hsame := (pushWord_written hs s.pc).same
  have hsp := State.pushWord_sp s s.pc
  have hread := readWord_pushWord hm hs s.pc
  generalize s.pushWord s.pc = n at hsame hsp hread
  have hpc : (n.jumpTo addr).readWord n.sp = s.pc := by
    rw [hsp, ← hread]
    rfl
  have hkeeps := keeps_trans (keeps_trans (jumpTo_keeps n addr) (drop_keeps _ 2)) (jumpTo_keeps _ ((n.jumpTo addr).readWord n.sp))
  refine ⟨_, rfl, hpc, sameExcept_restore (sameExcept_trans hsame hkeeps.1) fun f hf hstale => ?_⟩
  have hcases : f = .pc ∨ f = .sp := by revert hf hstale; cases f <;> decide
  rcases hcases with rfl | rfl
  · exact hpc
  · show n.sp + 2 = s.sp
    rw [hsp]
    ring

/-- Outside the window PPAGE says nothing about an address (20_memory.md R69). -/
theorem logicalKey_setPpage_outside {s : State} {a : Word} (h : s.device.expanded = true → inWindow a = false) (p : Byte) :
    (s.setPpage p).logicalKey a = s.logicalKey a := by
  have hcond : (s.device.expanded && inWindow a) = false := by
    cases he : s.device.expanded with
    | false => rfl
    | true => rw [h he]; rfl
  rw [State.logicalKey, State.logicalKey, State.setPpage_device, hcond, if_neg Bool.false_ne_true,
    if_neg Bool.false_ne_true]

theorem readByte_setPpage_outside {s : State} {a : Word} (hu : Unmapped s a)
    (h : s.device.expanded = true → inWindow a = false) (p : Byte) : (s.setPpage p).readByte a = s.readByte a := by
  rw [readByte_unmapped hu, readByte_unmapped (s := s.setPpage p) hu, logicalKey_setPpage_outside h]
  rfl

/-- A byte on top of what a stack in RAM holds already. -/
theorem pushByte_above {s m : State} {l : List (Word × Byte)} (hword : Written s m l) (hm : MemoryForm m)
    (hs : StackIsRam s 3) (hsp : m.sp = s.sp - 2) (v : Byte) :
    SameExcept [.sp, .stale] s (m.pushByte v) ∧ (m.pushByte v).sp = s.sp - 3 ∧ Unmapped (m.pushByte v) (s.sp - 3) ∧
    (m.pushByte v).readByte (s.sp - 3) = v ∧ (m.pushByte v).readWord (s.sp - 2) = m.readWord (s.sp - 2) := by
  have hram {k : Nat} (hk : 1 ≤ k) (hk3 : k ≤ 3) : IsRam m (s.sp - BitVec.ofNat 16 k) :=
    hword.ram _ (isRam_of_stackIsRam hs hk hk3)
  have htopsp : m.sp - 1 = s.sp - 3 := by
    rw [hsp]
    ring
  have htop : IsRam m (m.sp - 1) := htopsp ▸ hram (k := 3) (by decide) (by decide)
  have hbyte := pushByte_written htop v
  have hkeep {k : Nat} (hk : 1 ≤ k) (hk2 : k ≤ 2) :
      (m.pushByte v).readByte (s.sp - BitVec.ofNat 16 k) = m.readByte (s.sp - BitVec.ofNat 16 k) :=
    readByte_pushByte_ne htop (hram hk (by omega)) (htopsp ▸ sub_ne_sub s.sp k 3 (by omega) (by omega) (by omega)) v
  refine ⟨sameExcept_mono (sameExcept_trans hword.same hbyte.same) (by decide), ?_, ?_, ?_, ?_⟩
  · rw [(pushByte_does m v hm).1, htopsp]
  · exact (hbyte.ram _ (hram (k := 3) (by decide) (by decide))).1
  · rw [← htopsp]
    exact readByte_pushByte hm htop v
  · rw [State.readWord, State.readWord, show s.sp - 2 + 1 = s.sp - 1 by ring]
    exact congrArg₂ wordOf (hkeep (k := 2) (by decide) (by decide)) (hkeep (k := 1) (by decide) (by decide))

/-- RTC after CALL: PPAGE is read back first, from an address outside the window, then the word below it. -/
theorem rtc_after_call {s : State} (hm : MemoryForm s) (hs : StackIsRam s 3)
    (hout : s.device.expanded = true → inWindow (s.sp - 3) = false) (addr : Word) (page : Byte) :
    Completes .rtc (callTo addr page s) fun u => u.pc = s.pc ∧ u.ppage = s.ppage ∧ SameExcept [.stale] s u := by
  have hs2 := stackIsRam_mono hs (show 2 ≤ 3 by decide)
  obtain ⟨hsame, hsp, hunmapped, hread, hreadWord⟩ := pushByte_above (pushWord_written hs2 s.pc)
    (s.wf_pushWord s.pc hm) hs (State.pushWord_sp s s.pc) s.ppage
  rw [readWord_pushWord hm hs2] at hreadWord
  rw [callTo]
  generalize (s.pushWord s.pc).pushByte s.ppage = n at hsame hsp hunmapped hread hreadWord ⊢
  have hdevice : n.device = s.device := hsame .device (by decide)
  have hppage : n.ppage = s.ppage := hsame .ppage (by decide)
  obtain ⟨u, hu, hupage, husp, hupc, hukeep, -⟩ := rtc_does ((n.setPpage page).jumpTo addr)
  have hpage : u.ppage = s.ppage := by
    rw [hupage, ← hread, ← hsp]
    exact readByte_setPpage_outside (hsp ▸ hunmapped) (fun h => hsp ▸ hout (hdevice ▸ h)) page
  have hpc : u.pc = s.pc := by
    rw [hupc, ← hupage, hpage, ← hreadWord, show s.sp - 2 = n.sp + 1 by rw [hsp]; ring]
    have hback (b : Word) : ((((n.setPpage page).jumpTo addr).setSp (n.sp + 1)).setPpage s.ppage).readByte b = n.readByte b :=
      State.readByte_congr _ _ b rfl rfl hppage.symm rfl rfl rfl rfl
    exact congrArg₂ wordOf (hback _) (hback _)
  have hcall := keeps_trans (setPpage_keeps n page) (jumpTo_keeps _ addr)
  refine ⟨u, hu, hpc, hpage,
    sameExcept_restore (sameExcept_trans (sameExcept_trans hsame hcall.1) hukeep) fun f hf hstale => ?_⟩
  have hcases : f = .pc ∨ f = .sp ∨ f = .ppage := by revert hf hstale; cases f <;> decide
  rcases hcases with rfl | rfl | rfl
  · exact hpc
  · show u.sp = s.sp
    rw [husp]
    show n.sp + 3 = s.sp
    rw [hsp]
    ring
  · exact hpage

/-- Settles O45. -/
theorem subroutineReturns : Obligations.SubroutineReturns := by
  intro s t hm hs hout
  refine ⟨fun addr h => ?jsr, fun addr page h => ?call⟩
  case jsr =>
    obtain rfl := Host.Outcome.next.inj h
    exact rts_after_jsr hm (stackIsRam_mono hs (by decide)) addr
  case call =>
    obtain rfl := Host.Outcome.next.inj h
    exact rtc_after_call hm hs (hout 2 (by decide)) addr page

end Sys2Proof.Machine
end

section
/-! NOP and BGND, exceptions and their return, STOP and WAI (48_stack_ccr_system.md R783 to R789, 60_exceptions.md R811 to R813,
R830, R831). Settles O48, O49, O50, O51 and O52. -/

namespace Sys2Proof.Machine

open Sys2Proof Sys2Proof.Safety

theorem setRun_keeps (s : State) (r : RunState) : Keeps [.run] s (s.setRun r) := by
  refine ⟨fun f hf => ?_, fun _ _ => rfl⟩
  cases f
  case run => exact absurd (List.mem_singleton.mpr rfl) hf
  all_goals rfl

theorem nextSample_keeps (s : State) : Keeps [.inputs, .free] s s.nextSample := by
  refine ⟨fun f hf => ?_, fun _ _ => rfl⟩
  cases f
  case inputs | free => exact absurd hf (by decide)
  all_goals rfl

/-- A step without an access answers as its sample asks (60_exceptions.md R851). -/
theorem step_noAccess {s : State} (h : stepAccesses (nextInput s) s.nextSample = []) :
    step s = stepWith (nextInput s) s.nextSample := by
  refine step_permitted s ?_
  simp [Permitted, illegalAccess, h]

/-! ### NOP and BGND (48_stack_ccr_system.md R783, R784) -/

theorem bgnd_eq (s : State) : exec .bgnd s =
    .next (if s.device.bdmEnabled then (s.setTmp2 s.pc).setRun .background else s.setTmp2 s.pc) := rfl

theorem bgnd_disabled {s : State} (h : s.device.bdmEnabled = false) : Completes .bgnd s (Keeps [] s) :=
  ⟨_, (bgnd_eq s).trans (congrArg _ (if_neg (Bool.eq_false_iff.mp h))), writer_tmp2.keeps s s.pc⟩

theorem bgnd_enabled {s : State} (h : s.device.bdmEnabled = true) :
    Completes .bgnd s fun t => t.run = .background ∧ Keeps [.run] s t :=
  ⟨_, (bgnd_eq s).trans (congrArg _ (if_pos h)), rfl,
    keeps_trans (writer_tmp2.keeps s s.pc) (setRun_keeps _ .background)⟩

theorem backgroundMoment_does (s : State) (p : Sample) :
    (s.backgroundMoment p).run = (if p.debugGo then .running else s.run) ∧ (s.backgroundMoment p).pc = s.pc ∧
    Keeps [.run, .stale] s (s.backgroundMoment p) := by
  unfold State.backgroundMoment
  cases p.debugGo with
  | false => exact ⟨rfl, rfl, keeps_mono (keeps_refl s) (by decide)⟩
  | true =>
    obtain ⟨hjump, hmem⟩ := keeps_trans (jumpTo_keeps s s.pc) (setRun_keeps _ .running)
    refine ⟨rfl, rfl, sameExcept_restore hjump fun f hf hrest => ?_, hmem⟩
    have hpc : f = .pc := by revert hf hrest; cases f <;> decide
    subst hpc
    rfl

/-- A step in background mode reads no memory, and only the debug module's resume ends the mode (92 D17). -/
theorem step_background {s : State} (hrun : s.run = .background) (hreset : (nextInput s).reset = none) :
    step s = .next (s.nextSample.backgroundMoment (nextInput s)) := by
  have hrun' : s.nextSample.run = .background := hrun
  rw [step_noAccess (by simp only [stepAccesses, hreset, hrun'])]
  simp only [stepWith, hreset, hrun']

/-- Settles O48. -/
theorem nullAndBackground : Obligations.NullAndBackground := by
  refine ⟨fun _ => rfl, fun _ => bgnd_disabled, fun _ => bgnd_enabled, fun s hrun hreset => ?_⟩
  obtain ⟨hgo, hpc, hkeeps⟩ := backgroundMoment_does s.nextSample (nextInput s)
  refine ⟨_, step_background hrun hreset, ?_, hpc, keeps_mono (keeps_trans (nextSample_keeps s) hkeeps) (by decide)⟩
  rw [hgo, State.nextSample_run, hrun]

/-! ### SWI and TRAP (48_stack_ccr_system.md R785, R786) -/

theorem trap_eq {tn : Byte} (h : tn ∈ trapCodes) (s : State) : exec (.trap tn) s = .next (s.enter 0xF8 s.pc .trap) :=
  if_pos (List.contains_iff_mem.mpr h)

/-- Settles O49: both take their exception, of which `enter_does` says all. -/
theorem softwareInterruptAndTrap : Obligations.SoftwareInterruptAndTrap := fun s =>
  ⟨⟨_, rfl⟩, fun _ htn => ⟨_, trap_eq htn s⟩, fun hm hs =>
    ⟨⟨_, rfl, enter_does s 0xF6 s.pc .trap hm hs⟩, fun _ htn => ⟨_, trap_eq htn s, enter_does s 0xF8 s.pc .trap hm hs⟩⟩⟩

/-! ### RTI (48_stack_ccr_system.md R787) -/

theorem ccrWritten_xRule (s : State) (v : Byte) : CcrWritten s.ccr v (xRule s.ccr v) := by
  intro k hk
  rw [← State.writeCcr_ccr, writeCcr_bits s v k hk]
  by_cases h : k = 6
  · simp [h]
  · simp [h]

theorem rti_does (s : State) : Completes .rti s fun t =>
    t.ipl = (s.readByte s.sp).extractLsb' 0 3 ∧ CcrWritten s.ccr (s.readByte (s.sp + 1)) t.ccr ∧
    t.b = s.readByte (s.sp + 2) ∧ t.a = s.readByte (s.sp + 3) ∧ t.x = s.readWord (s.sp + 4) ∧
    t.y = s.readWord (s.sp + 6) ∧ t.pc = s.readWord (s.sp + 8) ∧ t.sp = s.sp + 10 ∧
    Keeps [.ipl, .ccr, .a, .b, .x, .y, .pc, .sp, .stale] s t := by
  obtain ⟨hccr, hipl, hb, ha, hx, hy, hpc, hsp, hkeeps⟩ := returnFromInterrupt_does s
  rw [State.readWord, hiByte_wordOf] at hb
  rw [State.readWord, loByte_wordOf, show s.sp + 2 + 1 = s.sp + 3 by ring] at ha
  exact ⟨_, rfl, hipl, hccr ▸ ccrWritten_xRule s _, hb, ha, hx, hy, hpc, hsp, keeps_mono hkeeps (by decide)⟩

/-- Settles O50. -/
theorem returnFromInterrupt : Obligations.ReturnFromInterrupt := rti_does

/-! ### STOP and WAI (48_stack_ccr_system.md R788, R789) -/

/-- The frame pushed on a stack in RAM, then another run state. -/
theorem pushFrameThenRun_does {s : State} (hm : MemoryForm s) (hs : StackIsRam s 10) (r : RunState) :
    FramePushed s ((s.pushFrame s.pc).setRun r) s.pc ∧
    SameExcept [.sp, .run, .stale] s ((s.pushFrame s.pc).setRun r) := by
  obtain ⟨-, hwritten⟩ := pushFrame_written s s.pc hs
  exact ⟨pushFrame_pushed s s.pc hm hs,
    sameExcept_mono (sameExcept_trans hwritten.same (setRun_keeps _ r).1) (by decide)⟩

/-- Settles O52. -/
theorem stopAndWait : Obligations.StopAndWait := by
  intro s
  have hstop (h : s.ccr.getLsbD 7 = false) : exec .stop s = .next ((s.pushFrame s.pc).setRun .stopped) :=
    if_neg (Bool.eq_false_iff.mp h)
  exact ⟨fun h => if_pos h, fun h => ⟨_, hstop h, rfl, State.pushFrame_sp s s.pc, State.pushFrame_ccr s s.pc⟩,
    ⟨_, rfl, rfl, State.pushFrame_sp s s.pc, State.pushFrame_ccr s s.pc⟩,
    fun hm hs => ⟨fun h => ⟨_, hstop h, pushFrameThenRun_does hm hs _⟩, ⟨_, rfl, pushFrameThenRun_does hm hs _⟩⟩⟩

/-! ### RTI after SWI (60_exceptions.md R811, R831) -/

section Entered

variable {s t : State} {offset : Byte} {rtn : Word} {setsX : Bool} {level : BitVec 3}

theorem isRam_of_sameExcept {fields : List Field} (h : SameExcept fields s t) (hd : Field.device ∉ fields)
    (hp : Field.ppage ∉ fields) {b : Word} (hb : IsRam s b) : IsRam t b ∧ t.logicalKey b = s.logicalKey b := by
  have hdevice : t.device = s.device := h .device hd
  have hkey := State.logicalKey_congr s t b hdevice (h .ppage hp)
  refine ⟨?_, hkey⟩
  rw [IsRam, Unmapped, hkey, hdevice]
  exact hb

/-- The bytes of a frame in RAM can be read back. -/
theorem readByte_of_entered (h : Entered s t offset rtn setsX level) (hs : StackIsRam s 10) {k : Nat} (hk : k < 10) :
    t.readByte (s.sp - 1 - BitVec.ofNat 16 k) = frameByte s rtn k := by
  obtain ⟨⟨-, hbytes, -⟩, -, -, -, -, hsame⟩ := h
  have hram : IsRam s (s.sp - 1 - BitVec.ofNat 16 k) := by
    have hram := isRam_of_stackIsRam hs (k := k + 1) (by omega) (by omega)
    rwa [BitVec.ofNat_add, show s.sp - (BitVec.ofNat 16 k + BitVec.ofNat 16 1) = s.sp - 1 - BitVec.ofNat 16 k by bv_omega]
      at hram
  obtain ⟨hram', hkey⟩ := isRam_of_sameExcept hsame (by decide) (by decide) hram
  rw [readByte_ram t _ hram', hkey, hbytes k hk]

/-- The bytes of RAM outside the frame read as before. -/
theorem readByte_outside_of_entered (h : Entered s t offset rtn setsX level) {b : Word} (hb : IsRam s b)
    (hout : ∀ k < 10, b ≠ s.sp - 1 - BitVec.ofNat 16 k) : t.readByte b = s.readByte b := by
  obtain ⟨⟨-, -, hmem⟩, -, -, -, -, hsame⟩ := h
  obtain ⟨hram, hkey⟩ := isRam_of_sameExcept hsame (by decide) (by decide) hb
  rw [readByte_ram t b hram, readByte_ram s b hb, hkey]
  refine hmem _ fun hkeys => ?_
  obtain ⟨k, hk, heq⟩ := List.mem_map.mp hkeys
  exact hout k (List.mem_range.mp hk) (logicalKey_injective s _ _ heq.symm)

/-- RTI undoes the taking of an exception that left X alone: the whole context is back. -/
theorem rti_after_entered (h : Entered s t offset rtn false level) (hs : StackIsRam s 10) :
    Completes .rti t fun u => u.pc = rtn ∧ u.ccr = s.ccr ∧ u.ipl = s.ipl ∧
      (rtn = s.pc → SameExcept [.run, .iDelay, .stale] s u) := by
  have hread (k : Nat) (hk : k < 10) := readByte_of_entered h hs hk
  obtain ⟨⟨hsp, -, -⟩, -, hmasks, -, -, hsame⟩ := h
  obtain ⟨u, hu, hipl, hccr, hb, ha, hx, hy, hpc, husp, hkeep, -⟩ := rti_does t
  have htop (k : Nat) (hk : k < 10) : t.sp + BitVec.ofNat 16 (9 - k) = s.sp - 1 - BitVec.ofNat 16 k := by
    rw [hsp]
    bv_omega
  have hbyte (k : Nat) (hk : k < 10) : t.readByte (t.sp + BitVec.ofNat 16 (9 - k)) = frameByte s rtn k := by
    rw [htop k hk, hread k hk]
  have hword (k : Nat) (hk : k < 9) : t.readWord (t.sp + BitVec.ofNat 16 (9 - (k + 1))) =
      wordOf (frameByte s rtn (k + 1)) (frameByte s rtn k) := by
    have hnext : t.sp + BitVec.ofNat 16 (9 - (k + 1)) + 1 = t.sp + BitVec.ofNat 16 (9 - k) := by bv_omega
    rw [State.readWord, hnext, hbyte k (by omega), hbyte (k + 1) (by omega)]
  have hpc' : u.pc = rtn := (hpc.trans (hword 0 (by decide))).trans (wordOf_hi_lo rtn)
  have hy' : u.y = s.y := (hy.trans (hword 2 (by decide))).trans (wordOf_hi_lo s.y)
  have hx' : u.x = s.x := (hx.trans (hword 4 (by decide))).trans (wordOf_hi_lo s.x)
  have ha' : u.a = s.a := ha.trans (hbyte 6 (by decide))
  have hb' : u.b = s.b := hb.trans (hbyte 7 (by decide))
  have hccr' : u.ccr = s.ccr := by
    apply BitVec.eq_of_getLsbD_eq
    intro k hk
    have hx6 : t.ccr.getLsbD 6 = s.ccr.getLsbD 6 := by simpa using hmasks 6 (by decide)
    have hbit : u.ccr.getLsbD k = (s.ccr.getLsbD k && (decide (k ≠ 6) || t.ccr.getLsbD 6)) := by
      rw [hccr k hk]
      exact congrArg (fun v : Byte => v.getLsbD k && _) (hbyte 8 (by decide))
    rw [hbit, hx6]
    by_cases h6 : k = 6
    · simp [h6]
    · simp [h6]
  have hipl' : u.ipl = s.ipl := by
    have hframe : t.readByte t.sp = s.ipl.zeroExtend 8 := by
      have htop9 := hbyte 9 (by decide)
      rwa [show t.sp + BitVec.ofNat 16 (9 - 9) = t.sp by simp] at htop9
    rw [hipl, hframe]
    generalize s.ipl = level
    revert level
    decide
  refine ⟨u, hu, hpc', hccr', hipl', fun hrtn => sameExcept_restore (sameExcept_trans hsame hkeep) fun f hf hrest => ?_⟩
  have hcases : f = .sp ∨ f = .pc ∨ f = .ccr ∨ f = .ipl ∨ f = .a ∨ f = .b ∨ f = .x ∨ f = .y := by
    revert hf hrest
    cases f <;> decide
  rcases hcases with rfl | rfl | rfl | rfl | rfl | rfl | rfl | rfl
  · show u.sp = s.sp
    rw [husp, hsp]
    ring
  · exact hpc'.trans hrtn
  · exact hccr'
  · exact hipl'
  · exact ha'
  · exact hb'
  · exact hx'
  · exact hy'

end Entered

/-- Settles O51. -/
theorem interruptThenReturnRestores : Obligations.InterruptThenReturnRestores := by
  intro s t hm hs h
  obtain rfl := Host.Outcome.next.inj h
  obtain ⟨u, hu, hpc, hccr, hipl, hsame⟩ := rti_after_entered (enter_does s 0xF6 s.pc .trap hm hs) hs
  exact ⟨u, hu, hpc, hccr, hipl, hsame rfl⟩

end Sys2Proof.Machine
end

section
/-! Interrupts at the recognition points (60_exceptions.md R804, R810 to R816, 48_stack_ccr_system.md R790, 49_fuzzy.md R1000,
R1008): what ends waiting and stopped, and the entry from running and from between two elements, of WAV with its sums stacked.
Settles O58 and O59. -/

namespace Sys2Proof.Machine

open Sys2Proof Sys2Proof.Safety

/-! ### Waiting and stopped (48_stack_ccr_system.md R790) -/

section Waiting

variable {s : State}

theorem stepWith_waiting (hrun : s.run = .waiting ∨ s.run = .stopped) (hreset : (nextInput s).reset = none) :
    stepWith (nextInput s) s.nextSample = .next (s.nextSample.waitMoment (nextInput s)) := by
  rcases hrun with hrun | hrun
  · simp only [stepWith, hreset, show s.nextSample.run = .waiting from hrun]
  · simp only [stepWith, hreset, show s.nextSample.run = .stopped from hrun]

theorem stepAccesses_waiting (hrun : s.run = .waiting ∨ s.run = .stopped) (hreset : (nextInput s).reset = none)
    (hrec : s.nextSample.recognised (nextInput s) false = none) : stepAccesses (nextInput s) s.nextSample = [] := by
  rcases hrun with hrun | hrun
  · simp only [stepAccesses, hreset, show s.nextSample.run = .waiting from hrun, hrec]
  · simp only [stepAccesses, hreset, show s.nextSample.run = .stopped from hrun, hrec]

/-- With nothing let through a waiting machine reads nothing, so its step is a moment of waiting. -/
theorem step_waiting (hrun : s.run = .waiting ∨ s.run = .stopped) (hreset : (nextInput s).reset = none)
    (hnone : NothingQualified s false) :
    step s = .next (if (nextInput s).xirq then (s.nextSample.drop 10).setRun .running else s.nextSample) := by
  have hrec := recognised_none s false hnone
  rw [step_noAccess (stepAccesses_waiting hrun hreset hrec), stepWith_waiting hrun hreset, State.waitMoment, hrec]

end Waiting

/-- Settles O59: the handler by `enterFromWait_does`; with nothing let through, by `step_waiting`. -/
theorem leavingWaitAndStop : Obligations.LeavingWaitAndStop := by
  intro s hrun hreset
  refine ⟨fun offset setsX level hpermitted hqualified => ?handler, fun hxirq hnone => ?resume, fun hxirq hnone => ?wait⟩
  case handler =>
    obtain ⟨m, hrec, rfl, rfl⟩ := recognised_qualified s false offset setsX level hqualified
    obtain ⟨hpc, hrunning, hmasks, hipl, hkeeps⟩ := enterFromWait_does s.nextSample offset m
    have hsp := hkeeps.1 .sp (by decide)
    refine ⟨_, ?_, hrunning, hpc, hsp, hmasks, hipl, keeps_mono hkeeps (by decide)⟩
    rw [step_permitted s hpermitted, stepWith_waiting hrun hreset, State.waitMoment, hrec]
  case resume =>
    refine ⟨_, (step_waiting hrun hreset hnone).trans (congrArg _ (if_pos hxirq)), rfl, rfl, rfl,
      keeps_trans (drop_keeps s.nextSample 10) (setRun_keeps _ .running)⟩
  case wait =>
    exact (step_waiting hrun hreset hnone).trans (congrArg _ (if_neg (Bool.eq_false_iff.mp hxirq)))

/-! ### The sums of a suspended WAV on a stack in RAM (49_fuzzy.md R1008) -/

/-- Bytes far from what is pushed read as before. -/
theorem readWord_pushWord_ne {s : State} (h : StackIsRam s 2) {b : Word} (hb : IsRam s b) (hb' : IsRam s (b + 1))
    (hlo : 2 ≤ (b - (s.sp - 2)).toNat) (hhi : (b - (s.sp - 2)).toNat < 65535) (v : Word) :
    (s.pushWord v).readWord b = s.readWord b :=
  congrArg₂ wordOf (readByte_pushWord_ne h hb (by bv_omega) (by bv_omega) v)
    (readByte_pushWord_ne h hb' (by bv_omega) (by bv_omega) v)

/-- Three words on a stack in RAM. -/
theorem pushThreeWords_reads {s : State} (hm : MemoryForm s) (hs : StackIsRam s 6) (v3 v2 v1 : Word) :
    (((s.pushWord v3).pushWord v2).pushWord v1).readWord (s.sp - 2) = v3 ∧
    (((s.pushWord v3).pushWord v2).pushWord v1).readWord (s.sp - 4) = v2 ∧
    (((s.pushWord v3).pushWord v2).pushWord v1).readWord (s.sp - 6) = v1 := by
  have hram {k : Nat} (hk : 1 ≤ k) (hk6 : k ≤ 6) : IsRam s (s.sp - BitVec.ofNat 16 k) := isRam_of_stackIsRam hs hk hk6
  have hs3 : StackIsRam (s.pushWord v3) 4 := stackIsRam_pushWord hs v3
  have hs2 : StackIsRam ((s.pushWord v3).pushWord v2) 2 := stackIsRam_pushWord hs3 v2
  have hw3 := pushWord_written (stackIsRam_mono hs (show 2 ≤ 6 by decide)) v3
  have hw2 := pushWord_written (stackIsRam_mono hs3 (show 2 ≤ 4 by decide)) v2
  have hform3 : MemoryForm (s.pushWord v3) := s.wf_pushWord v3 hm
  have hsp3 : (s.pushWord v3).sp = s.sp - 2 := State.pushWord_sp s v3
  have hsp2 : ((s.pushWord v3).pushWord v2).sp = s.sp - 4 := by
    rw [State.pushWord_sp, hsp3]
    ring
  have hread3 := readWord_pushWord hm (stackIsRam_mono hs (by decide)) v3
  have hread2 := readWord_pushWord hform3 (stackIsRam_mono hs3 (by decide)) v2
  have hread1 := readWord_pushWord ((s.pushWord v3).wf_pushWord v2 hform3) hs2 v1
  have hend3 : (s.pushWord v3).sp - 2 = s.sp - 4 := by
    rw [hsp3]
    ring
  have hend2 : ((s.pushWord v3).pushWord v2).sp - 2 = s.sp - 6 := by
    rw [hsp2]
    ring
  rw [hend3] at hread2
  rw [hend2] at hread1
  have hup : s.sp - 2 + 1 = s.sp - 1 := by ring
  have hup4 : s.sp - 4 + 1 = s.sp - 3 := by ring
  have r2 : IsRam s (s.sp - 2) := hram (k := 2) (by decide) (by decide)
  have r1 : IsRam s (s.sp - 1) := hram (k := 1) (by decide) (by decide)
  have r4 : IsRam s (s.sp - 4) := hram (k := 4) (by decide) (by decide)
  have r3 : IsRam s (s.sp - 3) := hram (k := 3) (by decide) (by decide)
  refine ⟨?_, ?_, hread1⟩
  · rw [readWord_pushWord_ne hs2 (hw2.ram _ (hw3.ram _ r2)) (hup ▸ hw2.ram _ (hw3.ram _ r1))
        (by rw [hend2, sub_sub_sub_cancel_left]; decide) (by rw [hend2, sub_sub_sub_cancel_left]; decide),
      readWord_pushWord_ne (stackIsRam_mono hs3 (by decide)) (hw3.ram _ r2) (hup ▸ hw3.ram _ r1)
        (by rw [hend3, sub_sub_sub_cancel_left]; decide) (by rw [hend3, sub_sub_sub_cancel_left]; decide)]
    exact hread3
  · rw [readWord_pushWord_ne hs2 (hw2.ram _ (hw3.ram _ r4)) (hup4 ▸ hw2.ram _ (hw3.ram _ r3))
        (by rw [hend2, sub_sub_sub_cancel_left]; decide) (by rw [hend2, sub_sub_sub_cancel_left]; decide)]
    exact hread2

theorem wavSuspend_sp (s : State) : (wavSuspend s).sp = s.sp - 6 := by
  have h : (wavSuspend s).sp = s.sp - 2 - 2 - 2 := by simp [wavSuspend]
  rw [h]
  ring

theorem wavSuspend_reads {s : State} (hm : MemoryForm s) (hs : StackIsRam s 6) :
    (wavSuspend s).readWord (s.sp - 2) = s.tmp3 ∧ (wavSuspend s).readWord (s.sp - 4) = s.tmp2 ∧
    (wavSuspend s).readWord (s.sp - 6) = s.tmp1 :=
  pushThreeWords_reads (s := (((s.setB (s.b - 1)).setY (s.y + 1)).setX (s.x + 1)).freeFlags 0x2F) hm hs s.tmp3 s.tmp2 s.tmp1

/-- A suspension leaves RAM to be RAM. -/
theorem wavSuspend_ram {s : State} (hs : StackIsRam s 6) {b : Word} (hb : IsRam s b) : IsRam (wavSuspend s) b := by
  have hs6 : StackIsRam ((((s.setB (s.b - 1)).setY (s.y + 1)).setX (s.x + 1)).freeFlags 0x2F) 6 := hs
  have hb' : IsRam ((((s.setB (s.b - 1)).setY (s.y + 1)).setX (s.x + 1)).freeFlags 0x2F) b := hb
  rw [wavSuspend]
  generalize (((s.setB (s.b - 1)).setY (s.y + 1)).setX (s.x + 1)).freeFlags 0x2F = t at hs6 hb' ⊢
  have hs4 := stackIsRam_pushWord hs6 s.tmp3
  have hs2 := stackIsRam_pushWord hs4 s.tmp2
  exact (pushWord_written hs2 _).ram _ ((pushWord_written (stackIsRam_mono hs4 (by decide)) _).ram _
    ((pushWord_written (stackIsRam_mono hs6 (by decide)) _).ram _ hb'))

theorem wavSuspend_stack {s : State} {n : Nat} (hs : StackIsRam s (n + 6)) : StackIsRam (wavSuspend s) n := by
  intro k hk
  have hram := isRam_of_stackIsRam hs (k := k + 1 + 6) (by omega) (by omega)
  rw [wavSuspend_sp]
  refine wavSuspend_ram (stackIsRam_mono hs (by omega)) ?_
  rwa [BitVec.ofNat_add, show s.sp - (BitVec.ofNat 16 (k + 1) + BitVec.ofNat 16 6) = s.sp - 6 - BitVec.ofNat 16 (k + 1) by
    bv_omega] at hram

/-! ### The entry (60_exceptions.md R804, R810 to R813) -/

section Entry

variable {s : State} {e : Byte × Masking}

theorem stepWith_recognised_running (hrun : s.run = .running) (hreset : (nextInput s).reset = none)
    (hrec : s.nextSample.recognised (nextInput s) s.iDelay = some e) :
    stepWith (nextInput s) s.nextSample = .next (s.nextSample.enter e.1 s.pc e.2) := by
  have hrec' : s.nextSample.recognised (nextInput s) s.nextSample.iDelay = some e := hrec
  simp only [stepWith, hreset, show s.nextSample.run = .running from hrun, hrec']
  rfl

theorem stepWith_recognised_element (hrun : s.run = .inRev ∨ s.run = .inRevw) (hreset : (nextInput s).reset = none)
    (hrec : s.nextSample.recognised (nextInput s) false = some e) :
    stepWith (nextInput s) s.nextSample = .next (s.nextSample.enter e.1 s.pc e.2) := by
  rcases hrun with hrun | hrun
  · simp only [stepWith, hreset, show s.nextSample.run = .inRev from hrun, hrec]
    rfl
  · simp only [stepWith, hreset, show s.nextSample.run = .inRevw from hrun, hrec]
    rfl

theorem stepWith_recognised_wav (hrun : s.run = .inWav) (hreset : (nextInput s).reset = none)
    (hrec : s.nextSample.recognised (nextInput s) false = some e) :
    stepWith (nextInput s) s.nextSample = .next ((wavSuspend s.nextSample).enter e.1 s.pc e.2) := by
  simp only [stepWith, hreset, show s.nextSample.run = .inWav from hrun, hrec]
  rfl

end Entry

/-- The sums stand above the frame of a suspended WAV. -/
theorem readWord_above_frame {s u t : State} {offset : Byte} {rtn : Word} {setsX : Bool} {level : BitVec 3}
    (h : Entered u t offset rtn setsX level) (hsp : u.sp = s.sp - 6) {j : Nat} (hj : 2 ≤ j) (hj6 : j ≤ 6)
    (hram : ∀ k, 1 ≤ k → k ≤ 6 → IsRam u (s.sp - BitVec.ofNat 16 k)) :
    t.readWord (s.sp - BitVec.ofNat 16 j) = u.readWord (s.sp - BitVec.ofNat 16 j) := by
  have hout (i : Nat) (hi : 1 ≤ i) (hi6 : i ≤ 6) :
      t.readByte (s.sp - BitVec.ofNat 16 i) = u.readByte (s.sp - BitVec.ofNat 16 i) := by
    refine readByte_outside_of_entered h (hram i hi hi6) fun k hk => ?_
    rw [hsp]
    bv_omega
  have hnext : s.sp - BitVec.ofNat 16 j + 1 = s.sp - BitVec.ofNat 16 (j - 1) := by bv_omega
  rw [State.readWord, State.readWord, hnext]
  exact congrArg₂ wordOf (hout j (by omega) hj6) (hout (j - 1) (by omega) (by omega))

/-- Settles O58: each entry by `enter_does`, that of WAV from the state with the sums stacked. -/
theorem interruptsAreTaken : Obligations.InterruptsAreTaken := by
  intro s offset setsX level hm hpermitted hreset
  have hm' : MemoryForm s.nextSample := hm
  refine ⟨fun hrun hs hqualified => ?running, fun hrun hs hqualified => ?element, fun hrun hs hqualified => ?wav⟩
  case running =>
    obtain ⟨m, hrec, rfl, rfl⟩ := recognised_qualified s s.iDelay offset setsX level hqualified
    exact ⟨_, (step_permitted s hpermitted).trans (stepWith_recognised_running hrun hreset hrec),
      enter_does s.nextSample offset s.pc m hm' hs⟩
  case element =>
    obtain ⟨m, hrec, rfl, rfl⟩ := recognised_qualified s false offset setsX level hqualified
    exact ⟨_, (step_permitted s hpermitted).trans (stepWith_recognised_element hrun hreset hrec),
      enter_does s.nextSample offset s.pc m hm' hs⟩
  case wav =>
    obtain ⟨m, hrec, rfl, rfl⟩ := recognised_qualified s false offset setsX level hqualified
    have hs' : StackIsRam s.nextSample 16 := hs
    have hs6 := stackIsRam_mono hs' (show 6 ≤ 16 by decide)
    obtain ⟨hread3, hread2, hread1⟩ := wavSuspend_reads hm' hs6
    have hsp : (wavSuspend s.nextSample).sp = s.sp - 6 := wavSuspend_sp _
    have hipl : (wavSuspend s.nextSample).ipl = s.ipl := by simp [wavSuspend]
    have hentered := enter_does (wavSuspend s.nextSample) offset s.pc m (wavSuspend_form hm') (wavSuspend_stack hs')
    rw [hipl] at hentered
    have hram (k : Nat) (hk : 1 ≤ k) (hk6 : k ≤ 6) : IsRam (wavSuspend s.nextSample) (s.sp - BitVec.ofNat 16 k) :=
      wavSuspend_ram hs6 (isRam_of_stackIsRam hs6 hk hk6)
    refine ⟨_, (step_permitted s hpermitted).trans (stepWith_recognised_wav hrun hreset hrec), hentered, ?_,
      (readWord_above_frame hentered hsp (j := 2) (by decide) (by decide) hram).trans hread3,
      (readWord_above_frame hentered hsp (j := 4) (by decide) (by decide) hram).trans hread2,
      (readWord_above_frame hentered hsp (j := 6) (by decide) (by decide) hram).trans hread1⟩
    rw [hentered.1.1, hsp]
    ring

end Sys2Proof.Machine
end

section
/-! WAV (49_fuzzy.md R1006 to R1008, R1000; logs 34, 35, 36): one pass, the end of the last, wavr, and the machine left alone
from the first pass to the last. Settles O56 and O57. -/

namespace Sys2Proof.Machine

open Sys2Proof Sys2Proof.Safety

/-! ### One pass (49_fuzzy.md R1006, R1007) -/

theorem setPc_keeps (s : State) (target : Word) : Keeps [.pc] s { s with pc := target } := by
  refine ⟨fun f hf => ?_, fun _ _ => rfl⟩
  cases f
  case pc => exact absurd (List.mem_singleton.mpr rfl) hf
  all_goals rfl

theorem byteProduct_eq_ofNat (p f : Byte) : p.zeroExtend 32 * f.zeroExtend 32 = BitVec.ofNat 32 (p.toNat * f.toNat) := by
  apply BitVec.eq_of_toNat_eq
  rw [BitVec.toNat_mul, BitVec.toNat_setWidth_of_le (by decide), BitVec.toNat_setWidth_of_le (by decide),
    BitVec.toNat_ofNat]

theorem zext8_eq_ofNat (f : Byte) : zext8 f = BitVec.ofNat 16 f.toNat := by
  apply BitVec.eq_of_toNat_eq
  have hf := f.isLt
  rw [toNat_zext8, BitVec.toNat_ofNat]
  omega

/-- One pair added to the sums, which no statement sees but through the TMP registers. -/
theorem accumulate_does (s : State) (f p : Byte) :
    longOf (s.accumulate f p).tmp1 (s.accumulate f p).tmp2 =
      longOf s.tmp1 s.tmp2 + BitVec.ofNat 32 (p.toNat * f.toNat) ∧
    (s.accumulate f p).tmp3 = s.tmp3 + BitVec.ofNat 16 f.toNat ∧ (s.accumulate f p).b = s.b ∧
    Keeps [] s (s.accumulate f p) := by
  refine ⟨?_, ?_, rfl,
    writer_tmp3.keeps_after (writer_tmp2.keeps_after (writer_tmp1.keeps s _) _) _⟩
  · rw [← byteProduct_eq_ofNat]
    exact longOf_hiWord_loWord _
  · rw [← zext8_eq_ofNat]
    rfl

theorem wavResults_keeps (s : State) : Keeps [.a, .b, .x, .y, .ccr, .free] s s.wavResults :=
  keeps_mono (keeps_trans (writer_x.keeps_after (writer_d.keeps_after (writer_y.keeps s _) _) _)
    (setCcr_freeFlags_keeps _ _ _)) (by decide)

/-- The last pass: the sums go to Y:D and X, Z is set. -/
theorem wavPassEnd_last {s : State} (hb : s.b = 0) (resume : Word) :
    (s.wavPassEnd resume).y = s.tmp1 ∧ (s.wavPassEnd resume).d = s.tmp2 ∧ (s.wavPassEnd resume).x = s.tmp3 ∧
    (s.wavPassEnd resume).run = .running ∧ (s.wavPassEnd resume).pc = resume + 1 ∧
    (s.wavPassEnd resume).ccr.getLsbD 2 = true ∧ SameCcrOutside 0x2F s.ccr (s.wavPassEnd resume).ccr ∧
    Keeps [.a, .b, .x, .y, .ccr, .run, .pc, .free] s (s.wavPassEnd resume) := by
  have heq : s.wavPassEnd resume = { s.wavResults.setRun .running with pc := resume + 1 } := if_pos hb
  rw [heq]
  have hccr {j : Nat} (hj : j < 8) (hm : (0x2B#8).getLsbD j = false) :
      s.wavResults.ccr.getLsbD j = if j = 2 then true else s.ccr.getLsbD j :=
    (getLsbD_freeFlags _ hj hm).trans (putFlag_getLsbD 2 j true s.ccr (by decide))
  refine ⟨rfl, wordOf_hi_lo s.tmp2, rfl, rfl, rfl, hccr (by decide) (by decide),
    sameCcrOutside_of_getLsbD fun j hj hm => ?_,
    keeps_mono (keeps_trans (keeps_trans (wavResults_keeps s) (setRun_keeps _ _)) (setPc_keeps _ _)) (by decide)⟩
  have hout : (0x2B#8).getLsbD j = false ∧ j ≠ 2 := by revert hm; revert j; decide
  exact (hccr hj hout.1).trans (if_neg hout.2)

/-- Another pass is to come. -/
theorem wavPassEnd_more {s : State} (hb : s.b ≠ 0) (resume : Word) :
    (s.wavPassEnd resume).tmp1 = s.tmp1 ∧ (s.wavPassEnd resume).tmp2 = s.tmp2 ∧ (s.wavPassEnd resume).tmp3 = s.tmp3 ∧
    (s.wavPassEnd resume).run = .inWav ∧ (s.wavPassEnd resume).pc = resume ∧
    Keeps [.run, .pc] s (s.wavPassEnd resume) := by
  have heq : s.wavPassEnd resume = { s.setRun .inWav with pc := resume } := if_neg hb
  rw [heq]
  exact ⟨rfl, rfl, rfl, rfl, rfl, keeps_mono (keeps_trans (setRun_keeps s _) (setPc_keeps _ _)) (by decide)⟩

/-! ### Start, resumption and suspension (49_fuzzy.md R1006, R1008) -/

theorem wav_does (s : State) : Completes .wav s fun t =>
    t.run = .inWav ∧ t.pc = s.pc - 1 ∧ t.tmp1 = 0 ∧ t.tmp2 = 0 ∧ t.tmp3 = 0 ∧ Keeps [.run, .pc] s t :=
  ⟨_, rfl, rfl, rfl, rfl, rfl, rfl,
    keeps_mono (keeps_trans (keeps_trans (writer_tmp3.keeps_after (writer_tmp2.keeps_after (writer_tmp1.keeps s 0) 0) 0)
      (setRun_keeps _ .inWav)) (setPc_keeps _ _)) (by decide)⟩

theorem wavr_does (s : State) : Completes .wavr s fun t =>
    let f := s.readByte (s.y - 1)
    let p := s.readByte (s.x - 1)
    let sop := (s.readWord s.sp ++ s.readWord (s.sp + 2) : BitVec 32) + BitVec.ofNat 32 (p.toNat * f.toNat)
    let sow := s.readWord (s.sp + 4) + BitVec.ofNat 16 f.toNat
    t.sp = s.sp + 6 ∧
    (s.b = 0 → t.y ++ t.d = sop ∧ t.x = sow ∧ t.run = .running ∧ t.pc = s.pc ∧ t.ccr.getLsbD 2 = true ∧
      SameCcrOutside 0x2F s.ccr t.ccr ∧ Keeps [.a, .b, .x, .y, .sp, .ccr, .run, .pc, .free] s t) ∧
    (s.b ≠ 0 → t.tmp1 ++ t.tmp2 = sop ∧ t.tmp3 = sow ∧ t.run = .inWav ∧ t.pc = s.pc - 1 ∧
      Keeps [.sp, .run, .pc] s t) := by
  have hpulled : Keeps [.sp] s ((((s.setTmp1 (s.readWord s.sp)).setTmp2 (s.readWord (s.sp + 2))).setTmp3
      (s.readWord (s.sp + 4))).drop 6) :=
    keeps_trans (writer_tmp3.keeps_after (writer_tmp2.keeps_after (writer_tmp1.keeps s _) _) _) (drop_keeps _ 6)
  obtain ⟨hproducts, hweights, hb, hsums⟩ := accumulate_does ((((s.setTmp1 (s.readWord s.sp)).setTmp2
    (s.readWord (s.sp + 2))).setTmp3 (s.readWord (s.sp + 4))).drop 6) (s.readByte (s.y - 1)) (s.readByte (s.x - 1))
  refine ⟨_, rfl, ?_⟩
  have hkeeps := keeps_trans hpulled hsums
  have hsp := hsums.1 .sp (by decide)
  have hccr : State.ccr _ = s.ccr := hkeeps.1 .ccr (by decide)
  have hbits : State.b _ = s.b := hb
  generalize State.accumulate _ (s.readByte (s.y - 1)) (s.readByte (s.x - 1)) = u at *
  by_cases hzero : s.b = 0
  · obtain ⟨hy, hd, hx, hrun, hpc, hz, hcodes, hend⟩ := wavPassEnd_last (hbits.trans hzero) (s.pc - 1)
    refine ⟨(hend.1 .sp (by decide)).trans hsp, fun _ => ⟨?_, hx.trans hweights, hrun, ?_, hz, hccr ▸ hcodes,
      keeps_mono (keeps_trans hkeeps hend) (by decide)⟩, fun h => absurd hzero h⟩
    · rw [hy, hd]
      exact hproducts
    · rw [hpc]
      ring
  · obtain ⟨h1, h2, h3, hrun, hpc, hend⟩ := wavPassEnd_more (hbits.trans_ne hzero) (s.pc - 1)
    refine ⟨(hend.1 .sp (by decide)).trans hsp, fun h => absurd h hzero, fun _ => ⟨?_, h3.trans hweights, hrun, hpc,
      keeps_mono (keeps_trans hkeeps hend) (by decide)⟩⟩
    rw [h1, h2]
    exact hproducts

/-- Settles O57. -/
theorem weightedAverageSuspension : Obligations.WeightedAverageSuspension :=
  ⟨wav_does, wavr_does, fun s hm hs =>
    ⟨by simp [wavSuspend], by simp [wavSuspend], by simp [wavSuspend], wavSuspend_sp s, wavSuspend_reads hm hs⟩⟩

/-! ### Left alone (49_fuzzy.md R1007, 92 D15) -/

/-- The sum of the first `k` products. -/
def productSum (s : State) (k : Nat) : Nat :=
  ((List.range k).map fun j =>
    (s.readByte (s.y + BitVec.ofNat 16 j)).toNat * (s.readByte (s.x + BitVec.ofNat 16 j)).toNat).sum

/-- The sum of the first `k` weights. -/
def weightSum (s : State) (k : Nat) : Nat :=
  ((List.range k).map fun j => (s.readByte (s.y + BitVec.ofNat 16 j)).toNat).sum

theorem productSum_succ (s : State) (k : Nat) : productSum s (k + 1) = productSum s k +
    (s.readByte (s.y + BitVec.ofNat 16 k)).toNat * (s.readByte (s.x + BitVec.ofNat 16 k)).toNat := by
  simp only [productSum, List.range_succ, List.map_append, List.sum_append, List.map_singleton, List.sum_singleton]

theorem weightSum_succ (s : State) (k : Nat) :
    weightSum s (k + 1) = weightSum s k + (s.readByte (s.y + BitVec.ofNat 16 k)).toNat := by
  simp only [weightSum, List.range_succ, List.map_append, List.sum_append, List.map_singleton, List.sum_singleton]

theorem productSum_le (s : State) (k : Nat) : productSum s k ≤ 65025 * k := by
  induction k with
  | zero => exact Nat.zero_le _
  | succ k ih =>
    have hproduct : (s.readByte (s.y + BitVec.ofNat 16 k)).toNat * (s.readByte (s.x + BitVec.ofNat 16 k)).toNat ≤
        255 * 255 := Nat.mul_le_mul (Nat.le_of_lt_succ (BitVec.isLt _)) (Nat.le_of_lt_succ (BitVec.isLt _))
    rw [productSum_succ]
    omega

theorem weightSum_le (s : State) (k : Nat) : weightSum s k ≤ 255 * k := by
  induction k with
  | zero => exact Nat.zero_le _
  | succ k ih =>
    have hweight := (s.readByte (s.y + BitVec.ofNat 16 k)).isLt
    rw [weightSum_succ]
    omega

/-- WAV after `k` passes from `s`, the next one to come. -/
structure WavProgress (s u : State) (k : Nat) : Prop where
  run : u.run = .inWav
  pc : u.pc = s.pc - 1
  b : u.b = s.b - BitVec.ofNat 8 k
  x : u.x = s.x + BitVec.ofNat 16 k
  y : u.y = s.y + BitVec.ofNat 16 k
  products : (longOf u.tmp1 u.tmp2).toNat = productSum s k
  weights : u.tmp3.toNat = weightSum s k
  keeps : Keeps [.b, .x, .y, .run, .pc, .free] s u

/-- What the machine left alone reaches. -/
structure WavDone (s u : State) (n : Nat) : Prop where
  run : u.run = .running
  pc : u.pc = s.pc
  products : u.y.toNat * 65536 + u.d.toNat = productSum s n
  weights : u.x.toNat = weightSum s n
  z : u.ccr.getLsbD 2 = true
  ccr : SameCcrOutside 0x2F s.ccr u.ccr
  keeps : Keeps [.a, .b, .x, .y, .ccr, .run, .pc, .free] s u

section LeftAlone

variable {s u : State} {n k : Nat}

/-- Reads give the same while no store and no page register comes between, on a device all of whose reads are specified. -/
theorem readByte_of_keeps {fields : List Field} (hfree : ∀ k f : Nat, ({ s with free := f } : State).readKey k = s.readKey k)
    (h : Keeps fields s u)
    (hpages : ∀ f ∈ [Field.device, .ppage, .gpage, .direct, .vb], f ∉ fields) (a : Word) : u.readByte a = s.readByte a := by
  have hsame (f : Field) (hf : f ∈ [Field.device, .ppage, .gpage, .direct, .vb]) : f.Same s u := h.1 f (hpages f hf)
  have hdevice : u.device = s.device := hsame .device (by decide)
  have hppage : u.ppage = s.ppage := hsame .ppage (by decide)
  simp only [State.readByte, hdevice]
  split
  · exact State.pageReg_congr s u _ hppage (hsame .gpage (by decide)) (hsame .direct (by decide)) (hsame .vb (by decide))
  · rw [State.logicalKey_congr s u a hdevice hppage, ← hfree _ u.free]
    exact State.readKey_congr _ u _ hdevice rfl (h.2 _ List.not_mem_nil)

/-- The step between two passes, left alone, is the next pass. -/
theorem step_wav (hinputs : s.inputs = [])
    (hforbids : ∀ c ∈ s.reads8 (s.y + BitVec.ofNat 16 k) ++ s.reads8 (s.x + BitVec.ofNat 16 k), s.device.forbids c = false)
    (h : WavProgress s u k) : step u = .next (wavPass u.nextSample) := by
  have hquiet : nextInput u = Sample.quiet := by
    rw [nextInput, show u.inputs = s.inputs from h.keeps.1 .inputs (by decide), hinputs]
    rfl
  have hrun : u.nextSample.run = .inWav := h.run
  have hdevice : u.device = s.device := h.keeps.1 .device (by decide)
  have hkey (a : Word) : u.nextSample.logicalKey a = s.logicalKey a :=
    State.logicalKey_congr s u.nextSample a hdevice (h.keeps.1 .ppage (by decide))
  have haccesses : stepAccesses (nextInput u) u.nextSample =
      s.reads8 (s.y + BitVec.ofNat 16 k) ++ s.reads8 (s.x + BitVec.ofNat 16 k) := by
    rw [hquiet]
    simp only [stepAccesses, Sample.quiet, hrun, State.recognised, Bool.false_and, Bool.false_eq_true, if_false,
      State.reads8, hkey, State.nextSample_x, State.nextSample_y, h.x, h.y]
  have hpermitted : Permitted u := by
    have hany : (stepAccesses (nextInput u) u.nextSample).any u.device.forbids = false := by
      rw [haccesses, hdevice]
      exact List.any_eq_false.mpr fun c hc => Bool.eq_false_iff.mp (hforbids c hc)
    show (_ && (stepAccesses (nextInput u) u.nextSample).any u.device.forbids) = false
    rw [hany, Bool.and_false]
  rw [step_permitted u hpermitted, hquiet]
  simp only [stepWith, Sample.quiet, hrun, State.recognised, Bool.false_and, Bool.false_eq_true, if_false]

/-- The state of a pass before it tells whether it is the last: one pair more in the sums. -/
theorem wavPass_sums (hfree : ∀ k f : Nat, ({ s with free := f } : State).readKey k = s.readKey k)
    (hinputs : s.inputs = []) (hk : k < 256) (h : WavProgress s u k) : ∃ v : State,
    wavPass u.nextSample = v.wavPassEnd (s.pc - 1) ∧ v.b = s.b - BitVec.ofNat 8 (k + 1) ∧
    v.x = s.x + BitVec.ofNat 16 (k + 1) ∧ v.y = s.y + BitVec.ofNat 16 (k + 1) ∧
    (longOf v.tmp1 v.tmp2).toNat = productSum s (k + 1) ∧ v.tmp3.toNat = weightSum s (k + 1) ∧
    Keeps [.b, .x, .y, .run, .pc, .free] s v := by
  have hread (a : Word) : u.nextSample.readByte a = s.readByte a :=
    readByte_of_keeps hfree (keeps_trans h.keeps (nextSample_keeps u)) (by decide) a
  have hinputs' : u.nextSample.inputs = s.inputs := by
    rw [State.nextSample_inputs, show u.inputs = s.inputs from h.keeps.1 .inputs (by decide), hinputs]
    rfl
  have hbegun : Keeps [.b, .x, .y, .run, .pc, .free] s
      (((u.nextSample.setB (u.nextSample.b - 1)).setY (u.nextSample.y + 1)).setX (u.nextSample.x + 1)) := by
    have hchain := writer_x.keeps_after (writer_y.keeps_after (writer_b.keeps_after
      (keeps_trans h.keeps (nextSample_keeps u)) (u.nextSample.b - 1)) (u.nextSample.y + 1)) (u.nextSample.x + 1)
    refine ⟨sameExcept_restore hchain.1 fun f hf hrest => ?_, hchain.2⟩
    have hf' : f = .inputs := by revert hf hrest; cases f <;> decide
    subst hf'
    exact hinputs'
  obtain ⟨hproducts, hweights, hb, hsums⟩ := accumulate_does
    (((u.nextSample.setB (u.nextSample.b - 1)).setY (u.nextSample.y + 1)).setX (u.nextSample.x + 1))
    (u.nextSample.readByte u.nextSample.y) (u.nextSample.readByte u.nextSample.x)
  have hy : u.nextSample.y = s.y + BitVec.ofNat 16 k := h.y
  have hx : u.nextSample.x = s.x + BitVec.ofNat 16 k := h.x
  have hnext (w : Word) : w + BitVec.ofNat 16 k + 1 = w + BitVec.ofNat 16 (k + 1) := by
    rw [BitVec.ofNat_add, ← BitVec.add_assoc]
    rfl
  refine ⟨_, show wavPass u.nextSample = State.wavPassEnd _ (s.pc - 1) by rw [← h.pc]; rfl, ?_, ?_, ?_, ?_, ?_,
    keeps_trans hbegun hsums⟩
  · rw [hb, BitVec.ofNat_add]
    show u.b - 1 = _
    rw [h.b]
    bv_omega
  · rw [← hnext, ← hx]
    rfl
  · rw [← hnext, ← hy]
    rfl
  · have hbound := productSum_le s (k + 1)
    rw [productSum_succ] at hbound ⊢
    rw [hproducts, BitVec.toNat_add, BitVec.toNat_ofNat, hread, hread, hy, hx, Nat.mul_comm (BitVec.toNat _)]
    show ((longOf u.tmp1 u.tmp2).toNat + _) % _ = _
    rw [h.products]
    omega
  · have hbound := weightSum_le s (k + 1)
    rw [weightSum_succ] at hbound ⊢
    rw [hweights, BitVec.toNat_add, BitVec.toNat_ofNat, hread, hy]
    show (u.tmp3.toNat + _) % _ = _
    rw [h.weights]
    omega

/-- The count is used up after as many passes as it says, 0 being 256 (92 D15). -/
theorem count_eq_zero_iff (hn : n = if s.b = 0 then 256 else s.b.toNat) (hk : k < n) :
    s.b - BitVec.ofNat 8 (k + 1) = 0 ↔ k + 1 = n := by
  have hb := s.b.isLt
  have hzero : s.b = 0 ↔ s.b.toNat = 0 := BitVec.toNat_inj.symm
  rw [← BitVec.toNat_inj, BitVec.toNat_sub, BitVec.toNat_ofNat]
  simp only [hzero] at hn
  split at hn
  · show (256 - (k + 1) % 256 + _) % 256 = 0 ↔ _
    omega
  · show (256 - (k + 1) % 256 + _) % 256 = 0 ↔ _
    omega

/-- From `k` passes the rest of them lead to the end, by induction on how many are left. -/
theorem run_wav (hinputs : s.inputs = []) (hfree : ∀ k f : Nat, ({ s with free := f } : State).readKey k = s.readKey k)
    (hn : n = if s.b = 0 then 256 else s.b.toNat)
    (hforbids : ∀ k < n, ∀ c ∈ s.reads8 (s.y + BitVec.ofNat 16 k) ++ s.reads8 (s.x + BitVec.ofNat 16 k),
      s.device.forbids c = false) (left : Nat) :
    ∀ (k : Nat) (u : State), k + (left + 1) = n → WavProgress s u k →
      ∃ v, Safety.run (left + 1) u = .next v ∧ WavDone s v n := by
  have hn256 : n ≤ 256 := by
    have hb := s.b.isLt
    rw [hn]
    split <;> omega
  induction left with
  | zero =>
    intro k u hk h
    obtain ⟨v, hpass, hb, -, -, hproducts, hweights, hkeeps⟩ := wavPass_sums hfree hinputs (by omega) h
    have hzero : v.b = 0 := hb.trans ((count_eq_zero_iff hn (by omega)).mpr hk)
    obtain ⟨hy, hd, hx, hrun, hpc, hz, hcodes, hend⟩ := wavPassEnd_last hzero (s.pc - 1)
    refine ⟨v.wavPassEnd (s.pc - 1), ?_, hrun, ?_, ?_, ?_, hz, (hkeeps.1 .ccr (by decide) : v.ccr = s.ccr) ▸ hcodes,
      keeps_mono (keeps_trans hkeeps hend) (by decide)⟩
    · rw [← hpass]
      simp only [Safety.run, step_wav hinputs (hforbids k (by omega)) h]
    · rw [hpc]
      ring
    · rw [hy, hd, ← toNat_longOf, hproducts, hk]
    · rw [hx, hweights, hk]
  | succ left ih =>
    intro k u hk h
    obtain ⟨v, hpass, hb, hx, hy, hproducts, hweights, hkeeps⟩ := wavPass_sums hfree hinputs (by omega) h
    have hmore : v.b ≠ 0 := fun hzero => by
      have := (count_eq_zero_iff hn (k := k) (by omega)).mp (hb.symm.trans hzero)
      omega
    obtain ⟨h1, h2, h3, hrun, hpc, hend⟩ := wavPassEnd_more hmore (s.pc - 1)
    have hnext : WavProgress s (v.wavPassEnd (s.pc - 1)) (k + 1) := by
      refine ⟨hrun, hpc, (hend.1 .b (by decide)).trans hb, (hend.1 .x (by decide)).trans hx,
        (hend.1 .y (by decide)).trans hy, ?_, ?_, keeps_mono (keeps_trans hkeeps hend) (by decide)⟩
      · rw [h1, h2, hproducts]
      · rw [h3, hweights]
    obtain ⟨w, hw, hdone⟩ := ih (k + 1) _ (by omega) hnext
    refine ⟨w, ?_, hdone⟩
    rw [Safety.run, step_wav hinputs (hforbids k (by omega)) h, hpass]
    exact hw

end LeftAlone

/-- Settles O56: WAV starts with no pass done and `run_wav` leads to the last. -/
theorem weightedAverageSums : Obligations.WeightedAverageSums := by
  intro s t n hinputs hfree hn hforbids ht
  obtain ⟨t', ht', hrun, hpc, h1, h2, h3, hkeeps⟩ := wav_does s
  obtain rfl : t' = t := Host.Outcome.next.inj (ht'.symm.trans ht)
  have hstart : WavProgress s t' 0 := by
    refine ⟨hrun, hpc, ?_, ?_, ?_, ?_, ?_, keeps_mono hkeeps (by decide)⟩
    · rw [show t'.b = s.b from hkeeps.1 .b (by decide)]
      simp
    · rw [show t'.x = s.x from hkeeps.1 .x (by decide)]
      simp
    · rw [show t'.y = s.y from hkeeps.1 .y (by decide)]
      simp
    · rw [h1, h2]
      rfl
    · rw [h3]
      rfl
  have hpos : 0 + (n - 1 + 1) = n := by
    have hzero : s.b = 0 ↔ s.b.toNat = 0 := BitVec.toNat_inj.symm
    simp only [hzero] at hn
    split at hn <;> omega
  obtain ⟨u, hu, hdone⟩ := run_wav hinputs hfree hn hforbids (n - 1) 0 t' hpos hstart
  rw [Nat.sub_add_cancel (by omega)] at hu
  exact ⟨u, hu, hdone.run, hdone.pc, hdone.products, hdone.weights, hdone.z, hdone.ccr, hdone.keeps⟩

end Sys2Proof.Machine
end

section
/-! Fuzzy logic but WAV (49_fuzzy.md R1000 to R1004): the grade of membership as a number, one element of a rule list by the kind
of its entry. Settles O53, O54 and O55. -/

namespace Sys2Proof.Machine

open Sys2Proof Sys2Proof.Safety

theorem pageField_not_mem (fields : List Field) (h : ∀ f ∈ [Field.ppage, .gpage, .direct, .vb], f ∉ fields) (r : PageReg) :
    pageField r ∉ fields := by
  cases r <;> exact h _ (by decide)

theorem storesByte_mono {also more : List Field} {s t : State} {a : Word} {v : Byte} (h : StoresByte also s t a v)
    (hsub : also ⊆ more) : StoresByte more s t a v := by
  obtain ⟨hmem, hunmapped, hmapped⟩ := h
  refine ⟨hmem, fun hu => ?_, fun r hr => ?_⟩
  · obtain ⟨hsame, hkept⟩ := hunmapped hu
    exact ⟨sameExcept_mono hsame fun _ hf => List.cons_subset_cons _ hsub hf, hkept⟩
  · obtain ⟨hsame, hpage, hrest⟩ := hmapped r hr
    exact ⟨hsame, hpage, sameExcept_mono hrest fun _ hf => List.cons_subset_cons _ (List.cons_subset_cons _ hsub) hf⟩

/-- A store after X has been stepped over its entry. -/
theorem storesByte_setX {also : List Field} {s t : State} {a : Word} {v : Byte} {x : Word}
    (h : StoresByte also (s.setX x) t a v) : StoresByte (also ++ [.x]) s t a v := by
  obtain ⟨hmem, hunmapped, hmapped⟩ := h
  refine ⟨hmem, fun hu => ?_, fun r hr => ?_⟩
  · obtain ⟨hsame, hkept⟩ := hunmapped hu
    exact ⟨sameExcept_trans (writer_x.same s x) hsame, hkept⟩
  · obtain ⟨hsame, hpage, hrest⟩ := hmapped r hr
    exact ⟨hsame, hpage, sameExcept_trans (writer_x.same s x) hrest⟩

/-! ### MEM (49_fuzzy.md R1001, R1002) -/

/-- The algorithm of R1002 in the order in which it decides. -/
theorem memGrade_eq (x p1 p2 s1 s2 : Byte) : memGrade x p1 p2 s1 s2 = BitVec.ofNat 8
    (if x.toNat < p1.toNat ∨ p2.toNat < x.toNat then 0
     else if s1.toNat ≠ 0 ∧ (x.toNat - p1.toNat) * s1.toNat ≤ 255 then (x.toNat - p1.toNat) * s1.toNat
     else if s2.toNat = 0 ∨ 255 < (p2.toNat - x.toNat) * s2.toNat then 255
     else (p2.toNat - x.toNat) * s2.toNat) := by
  have hs1 : (s1 == 0#8) = decide (s1.toNat = 0) := eq_zero_iff s1
  have hs2 : (s2 == 0#8) = decide (s2.toNat = 0) := eq_zero_iff s2
  rw [memGrade]
  by_cases hout : x.toNat < p1.toNat ∨ p2.toNat < x.toNat
  · have hout' : (decide (x.toNat < p1.toNat) || decide (p2.toNat < x.toNat)) = true := by simpa using hout
    simp only [hout', hout, if_true, Bool.not_true, Bool.and_false, Bool.false_eq_true, if_false, ite_self]
  · have hout' : (decide (x.toNat < p1.toNat) || decide (p2.toNat < x.toNat)) = false := by simpa using hout
    by_cases hfirst : s1.toNat ≠ 0 ∧ (x.toNat - p1.toNat) * s1.toNat ≤ 255
    · have hfirst' : (decide (s1.toNat = 0) || decide (255 < (x.toNat - p1.toNat) * s1.toNat)) = false := by
        simpa using hfirst
      simp only [hs1, hout', hout, hfirst', if_pos hfirst, Bool.false_eq_true, if_false]
    · have hfirst' : (decide (s1.toNat = 0) || decide (255 < (x.toNat - p1.toNat) * s1.toNat)) = true := by
        rw [Bool.or_eq_true, decide_eq_true_iff, decide_eq_true_iff]
        omega
      simp only [hs1, hs2, hout', hout, hfirst', if_neg hfirst, Bool.false_eq_true, if_false, if_true, Bool.not_false,
        Bool.and_true, Bool.or_eq_true, decide_eq_true_iff]

/-- Settles O53: the store first, then the registers that the instruction steps and frees. -/
theorem membershipGrade : Obligations.MembershipGrade := by
  intro s hm
  have hword : s.readWord (s.x + 2) = wordOf (s.readByte (s.x + 2)) (s.readByte (s.x + 3)) := by
    rw [State.readWord, show s.x + 2 + 1 = s.x + 3 by ring]
  refine ⟨_, rfl, rfl, rfl, ?_, ?_⟩
  · have hfree := (freeFlags_same (((s.writeByte s.y (memGrade s.a (hiByte (s.readWord s.x)) (loByte (s.readWord s.x))
      (hiByte (s.readWord (s.x + 2))) (loByte (s.readWord (s.x + 2))))).setY (s.y + 1)).setX (s.x + 4)) 0x2F).2
    rw [State.setX_ccr, State.setY_ccr, State.writeByte_ccr] at hfree
    exact hfree
  · rw [← memGrade_eq, hword, State.readWord]
    simp only [hiByte_wordOf, loByte_wordOf]
    generalize memGrade s.a (s.readByte s.x) (s.readByte (s.x + 1)) (s.readByte (s.x + 2)) (s.readByte (s.x + 3)) = grade
    have hrest := keeps_trans (writer_x.keeps_after (writer_y.keeps (s.writeByte s.y grade) (s.y + 1)) (s.x + 4))
      (freeFlags_keeps _ 0x2F)
    exact storesByte_mono (storesByte_then (stores_writeByte s s.y grade hm) hrest.1 rfl
      (pageField_not_mem _ (by decide))) (by decide)

/-! ### One element of a rule list -/

theorem toNat_minByte (p q : Byte) : (minByte p q).toNat = min p.toNat q.toNat := by
  rw [minByte]
  by_cases h : q < p
  · rw [if_pos h, min_eq_right (Nat.le_of_lt h)]
  · rw [if_neg h, min_eq_left (Nat.le_of_not_lt h)]

section RaiseOutput

variable {s : State} {addr : Word}

theorem raiseOutput_of_above (h : s.readByte addr < s.a) : raiseOutput s addr = s.writeByte addr s.a := if_pos h

theorem raiseOutput_of_below (h : ¬ s.readByte addr < s.a) : raiseOutput s addr = s := if_neg h

theorem raiseOutput_registers (s : State) (addr : Word) : (raiseOutput s addr).a = s.a ∧ (raiseOutput s addr).x = s.x ∧
    (raiseOutput s addr).y = s.y ∧ (raiseOutput s addr).ccr = s.ccr := by
  by_cases h : s.readByte addr < s.a
  · rw [raiseOutput_of_above h]
    simp
  · rw [raiseOutput_of_below h]
    exact ⟨rfl, rfl, rfl, rfl⟩

end RaiseOutput

/-- What REV and REVW do after the element's own effect: some codes are free, the run state and PC say what comes next. -/
def elementEnd (e : State) (mask : Byte) (run : RunState) (pc : Word) : State :=
  { (e.freeFlags mask).setRun run with pc := pc }

theorem elementEnd_keeps (e : State) (mask : Byte) (run : RunState) (pc : Word) :
    Keeps [.ccr, .free, .run, .pc] e (elementEnd e mask run pc) :=
  keeps_mono (keeps_trans (keeps_trans (freeFlags_keeps e mask) (setRun_keeps _ run)) (setPc_keeps _ pc)) (by decide)

/-- V as the element leaves it; outside V and the free codes every bit as before. -/
theorem elementEnd_ccr {e : State} {mask old : Byte} {v : Bool} (run : RunState) (pc : Word)
    (hccr : ∀ j, e.ccr.getLsbD j = if j = 1 then v else old.getLsbD j) (hmask : mask.getLsbD 1 = false) :
    (elementEnd e mask run pc).ccr.getLsbD 1 = v ∧ SameCcrOutside (mask ||| 0x02) old (elementEnd e mask run pc).ccr := by
  have hbit {j : Nat} (hj : j < 8) (hm : mask.getLsbD j = false) : (elementEnd e mask run pc).ccr.getLsbD j =
      if j = 1 then v else old.getLsbD j := (getLsbD_freeFlags e hj hm).trans (hccr j)
  refine ⟨hbit (by decide) hmask, sameCcrOutside_of_getLsbD fun j hj hm => ?_⟩
  rw [BitVec.getLsbD_or, Bool.or_eq_false_iff] at hm
  have hne : j ≠ 1 := by
    rintro rfl
    exact absurd hm.2 (by decide)
  rw [hbit hj hm.1, if_neg hne]

/-- The stores and the frame of an element are those of its own effect. -/
theorem elementEnd_stores {c : Prop} [Decidable c] {e s : State} {fields : List Field} {a : Word} {b : Byte}
    {mask : Byte} {run : RunState} {pc : Word}
    {all : List Field} (h : if c then StoresByte [.x] s e a b else Keeps fields s e)
    (hall : [.ccr, .free, .run, .pc] ++ fields ⊆ all) :
    if c then StoresByte [.x, .ccr, .free, .run, .pc] s (elementEnd e mask run pc) a b
    else Keeps all s (elementEnd e mask run pc) := by
  have hend := elementEnd_keeps e mask run pc
  by_cases hc : c
  · rw [if_pos hc] at h ⊢
    exact storesByte_mono (storesByte_then h hend.1 rfl (pageField_not_mem _ (by decide))) (by decide)
  · rw [if_neg hc] at h ⊢
    exact keeps_mono (keeps_trans h hend) hall

/-- A raised output is stored to after X has been stepped. -/
theorem raiseOutput_stores {s : State} (hm : MemoryForm s) (x addr : Word) :
    if (s.readByte addr).toNat < s.a.toNat then StoresByte [.x] s (raiseOutput (s.setX x) addr) addr s.a
    else Keeps [.x] s (raiseOutput (s.setX x) addr) := by
  by_cases h : (s.setX x).readByte addr < (s.setX x).a
  · have h' : (s.readByte addr).toNat < s.a.toNat := h
    rw [if_pos h', raiseOutput_of_above h]
    exact storesByte_setX (stores_writeByte (s.setX x) addr s.a hm)
  · have h' : ¬ (s.readByte addr).toNat < s.a.toNat := h
    rw [if_neg h', raiseOutput_of_below h]
    exact writer_x.keeps s x

/-! ### REV (49_fuzzy.md R1003) -/

section Rev

variable {s : State}

theorem revElement_last (h : s.readByte s.x = 0xFF) : revElement s = s.setX (s.x + 1) := if_pos h

theorem revElement_separator (h : s.readByte s.x = 0xFE) : revElement s =
    (if s.ccr.getLsbD 1 then (s.setX (s.x + 1)).setA 0xFF else s.setX (s.x + 1)).setCcr
      (putFlag 1 (!s.ccr.getLsbD 1) s.ccr) := by
  have hlast : s.readByte s.x ≠ 0xFF := by
    rw [h]
    decide
  exact (if_neg hlast).trans (if_pos h)

theorem revElement_consequent (hlast : s.readByte s.x ≠ 0xFF) (hsep : s.readByte s.x ≠ 0xFE)
    (hv : s.ccr.getLsbD 1 = true) :
    revElement s = raiseOutput (s.setX (s.x + 1)) (s.y + (s.readByte s.x).zeroExtend 16) :=
  (if_neg hlast).trans ((if_neg hsep).trans (if_pos hv))

theorem revElement_antecedent (hlast : s.readByte s.x ≠ 0xFF) (hsep : s.readByte s.x ≠ 0xFE)
    (hv : s.ccr.getLsbD 1 = false) : revElement s =
      (s.setX (s.x + 1)).setA (minByte s.a (s.readByte (s.y + (s.readByte s.x).zeroExtend 16))) :=
  (if_neg hlast).trans ((if_neg hsep).trans (if_neg (Bool.eq_false_iff.mp hv)))

/-- What an element of REV makes of the registers, whatever its kind. -/
theorem revElement_registers (s : State) : (revElement s).x = s.x + 1 ∧
    ∀ j, (revElement s).ccr.getLsbD j =
      if j = 1 then (if s.readByte s.x = 0xFE then !s.ccr.getLsbD 1 else s.ccr.getLsbD 1) else s.ccr.getLsbD j := by
  have hkeep (j : Nat) : s.ccr.getLsbD j = if j = 1 then s.ccr.getLsbD 1 else s.ccr.getLsbD j := by
    split
    · next h => rw [h]
    · rfl
  by_cases hlast : s.readByte s.x = 0xFF
  · rw [revElement_last hlast, hlast, if_neg (by decide)]
    exact ⟨rfl, hkeep⟩
  by_cases hsep : s.readByte s.x = 0xFE
  · rw [revElement_separator hsep, if_pos hsep]
    refine ⟨?_, fun j => putFlag_getLsbD 1 j _ s.ccr (by decide)⟩
    split <;> rfl
  rw [if_neg hsep]
  cases hv : s.ccr.getLsbD 1 with
  | true =>
    obtain ⟨-, hx, -, hccr⟩ := raiseOutput_registers (s.setX (s.x + 1)) (s.y + (s.readByte s.x).zeroExtend 16)
    rw [revElement_consequent hlast hsep hv, hx, hccr]
    exact ⟨rfl, hv ▸ hkeep⟩
  | false =>
    rw [revElement_antecedent hlast hsep hv]
    exact ⟨rfl, hv ▸ hkeep⟩

/-- Only a consequent stores, and only to an output that is below A. -/
theorem revElement_stores (hm : MemoryForm s) :
    if s.readByte s.x ≠ 0xFF ∧ s.readByte s.x ≠ 0xFE ∧ s.ccr.getLsbD 1 = true ∧
        (s.readByte (s.y + (s.readByte s.x).zeroExtend 16)).toNat < s.a.toNat
      then StoresByte [.x] s (revElement s) (s.y + (s.readByte s.x).zeroExtend 16) s.a
      else Keeps [.a, .x, .ccr] s (revElement s) := by
  by_cases hlast : s.readByte s.x = 0xFF
  · rw [if_neg fun h => h.1 hlast, revElement_last hlast]
    exact keeps_mono (writer_x.keeps s _) (by decide)
  by_cases hsep : s.readByte s.x = 0xFE
  · rw [if_neg fun h => h.2.1 hsep, revElement_separator hsep]
    split
    · exact keeps_mono (keeps_trans (writer_a.keeps_after (writer_x.keeps s _) _) (setCcr_keeps _ _)) (by decide)
    · exact keeps_mono (keeps_trans (writer_x.keeps s _) (setCcr_keeps _ _)) (by decide)
  cases hv : s.ccr.getLsbD 1 with
  | true =>
    have hraise := raiseOutput_stores hm (s.x + 1) (s.y + (s.readByte s.x).zeroExtend 16)
    rw [← revElement_consequent hlast hsep hv] at hraise
    by_cases h : (s.readByte (s.y + (s.readByte s.x).zeroExtend 16)).toNat < s.a.toNat
    · rw [if_pos h] at hraise
      rw [if_pos ⟨hlast, hsep, rfl, h⟩]
      exact hraise
    · rw [if_neg h] at hraise
      rw [if_neg fun hc => h hc.2.2.2]
      exact keeps_mono hraise (by decide)
  | false =>
    rw [if_neg fun h => Bool.false_ne_true h.2.2.1, revElement_antecedent hlast hsep hv]
    exact keeps_mono (writer_a.keeps_after (writer_x.keeps s _) _) (by decide)

theorem rev_eq (s : State) : exec .rev s = .next (elementEnd (revElement s) 0x2D
    (if s.readByte s.x = 0xFF then .running else .inRev) (if s.readByte s.x = 0xFF then s.pc else s.pc - 2)) := by
  by_cases h : s.readByte s.x = 0xFF
  · rw [if_pos h, if_pos h]
    refine (if_pos h).trans ?_
    rw [revElement_last h]
    rfl
  · rw [if_neg h, if_neg h]
    exact if_neg h

end Rev

/-- A after an element of REV, kind by kind. -/
theorem revElement_a (s : State) :
    let r := s.readByte s.x
    let v := s.ccr.getLsbD 1
    (r = 0xFF → (revElement s).a = s.a) ∧ (r = 0xFE → (revElement s).a = if v then 0xFF else s.a) ∧
    (r ≠ 0xFF → r ≠ 0xFE → v = false → (revElement s).a.toNat = min s.a.toNat (s.readByte (s.y + r.zeroExtend 16)).toNat) ∧
    (r ≠ 0xFF → r ≠ 0xFE → v = true → (revElement s).a = s.a) := by
  refine ⟨fun hlast => ?_, fun hsep => ?_, fun hlast hsep hv => ?_, fun hlast hsep hv => ?_⟩
  · rw [revElement_last hlast]
    rfl
  · rw [revElement_separator hsep]
    split <;> rfl
  · rw [revElement_antecedent hlast hsep hv]
    exact toNat_minByte _ _
  · rw [revElement_consequent hlast hsep hv]
    exact (raiseOutput_registers _ _).1

/-- REV's own effect on the element (`revElement`), under the codes, run state and PC of `elementEnd`. -/
theorem rev_does (s : State) (hm : MemoryForm s) : Completes .rev s fun t =>
    let r := s.readByte s.x
    let out := s.y + r.zeroExtend 16
    let v := s.ccr.getLsbD 1
    t.x = s.x + 1 ∧ t.run = (if r = 0xFF then .running else .inRev) ∧ t.pc = (if r = 0xFF then s.pc else s.pc - 2) ∧
    t.ccr.getLsbD 1 = (if r = 0xFE then !v else v) ∧ SameCcrOutside 0x2F s.ccr t.ccr ∧
    (r = 0xFF → t.a = s.a) ∧ (r = 0xFE → t.a = if v then 0xFF else s.a) ∧
    (r ≠ 0xFF → r ≠ 0xFE → v = false → t.a.toNat = min s.a.toNat (s.readByte out).toNat) ∧
    (r ≠ 0xFF → r ≠ 0xFE → v = true → t.a = s.a) ∧
    (if r ≠ 0xFF ∧ r ≠ 0xFE ∧ v = true ∧ (s.readByte out).toNat < s.a.toNat
      then StoresByte [.x, .ccr, .free, .run, .pc] s t out s.a
      else Keeps [.a, .x, .ccr, .free, .run, .pc] s t) := by
  have hregisters := revElement_registers s
  have ha := revElement_a s
  have hstores := revElement_stores hm
  refine ⟨_, rev_eq s, ?_⟩
  generalize revElement s = e at hregisters ha hstores ⊢
  obtain ⟨hx, hccr⟩ := hregisters
  obtain ⟨hlast, hsep, hante, hcons⟩ := ha
  obtain ⟨hv, hcodes⟩ := elementEnd_ccr (if s.readByte s.x = 0xFF then .running else .inRev)
    (if s.readByte s.x = 0xFF then s.pc else s.pc - 2) hccr (show (0x2D#8).getLsbD 1 = false by decide)
  exact ⟨hx, rfl, rfl, hv, hcodes, hlast, hsep, hante, hcons, elementEnd_stores hstores (by decide)⟩

/-- Between two elements a step with nothing recognised goes on with the next element (R1000). -/
theorem step_nextElement {s : State} (hrun : s.run = .inRev ∨ s.run = .inRevw) (hn : NothingRecognised s false)
    (hp : Permitted s) : step s = if s.run = .inRev then continueRev s.nextSample else continueRevw s.nextSample := by
  obtain ⟨hreset, -, hq⟩ := hn
  have hrec := recognised_none s false hq
  rw [step_permitted s hp]
  rcases hrun with hrun | hrun
  · rw [if_pos hrun]
    simp only [stepWith, hreset, show s.nextSample.run = .inRev from hrun, hrec]
  · rw [if_neg (by rw [hrun]; decide)]
    simp only [stepWith, hreset, show s.nextSample.run = .inRevw from hrun, hrec]

/-- Settles O54: `rev_does` is one element, `step_nextElement` the step to the next. -/
theorem ruleEvaluation : Obligations.RuleEvaluation :=
  ⟨rev_does, fun _ hrun hn hp => (step_nextElement (.inl hrun) hn hp).trans (if_pos hrun)⟩

/-! ### REVW (49_fuzzy.md R1004) -/

section Revw

variable {s : State}

theorem revwElement_last (h : s.readWord s.x = 0xFFFF) : revwElement s = s.setX (s.x + 2) := if_pos h

/-- The separator before a rule's antecedents. -/
theorem revwElement_begin (h : s.readWord s.x = 0xFFFE) (hv : s.ccr.getLsbD 1 = true) :
    revwElement s = ((s.setX (s.x + 2)).setA 0xFF).setCcr (putFlag 1 false s.ccr) := by
  have hlast : s.readWord s.x ≠ 0xFFFF := by
    rw [h]
    decide
  exact (if_neg hlast).trans ((if_pos h).trans (if_pos hv))

/-- The separator between a rule's antecedents and its consequents. -/
theorem revwElement_turn (h : s.readWord s.x = 0xFFFE) (hv : s.ccr.getLsbD 1 = false) : revwElement s =
    (if s.ccr.getLsbD 0 then ((s.setX (s.x + 2)).setA (weightTruth s.a (s.readByte s.y))).setY (s.y + 1)
      else s.setX (s.x + 2)).setCcr (putFlag 1 true s.ccr) := by
  have hlast : s.readWord s.x ≠ 0xFFFF := by
    rw [h]
    decide
  exact (if_neg hlast).trans ((if_pos h).trans (if_neg (Bool.eq_false_iff.mp hv)))

theorem revwElement_consequent (hlast : s.readWord s.x ≠ 0xFFFF) (hsep : s.readWord s.x ≠ 0xFFFE)
    (hv : s.ccr.getLsbD 1 = true) : revwElement s = raiseOutput (s.setX (s.x + 2)) (s.readWord s.x) :=
  (if_neg hlast).trans ((if_neg hsep).trans (if_pos hv))

theorem revwElement_antecedent (hlast : s.readWord s.x ≠ 0xFFFF) (hsep : s.readWord s.x ≠ 0xFFFE)
    (hv : s.ccr.getLsbD 1 = false) :
    revwElement s = (s.setX (s.x + 2)).setA (minByte s.a (s.readByte (s.readWord s.x))) :=
  (if_neg hlast).trans ((if_neg hsep).trans (if_neg (Bool.eq_false_iff.mp hv)))

/-- A weighted truth value needs no more than eight bits. -/
theorem toNat_weightTruth (x weight : Byte) : (weightTruth x weight).toNat = x.toNat * (weight.toNat + 1) / 256 := by
  have hle : x.toNat * (weight.toNat + 1) ≤ 255 * 256 :=
    Nat.mul_le_mul (Nat.le_of_lt_succ x.isLt) (Nat.succ_le_of_lt weight.isLt)
  rw [weightTruth, BitVec.toNat_ofNat]
  omega

/-- What an element of REVW makes of the registers, whatever its kind. -/
theorem revwElement_registers (s : State) : (revwElement s).x = s.x + 2 ∧
    (revwElement s).y =
      (if s.readWord s.x = 0xFFFE ∧ s.ccr.getLsbD 1 = false ∧ s.ccr.getLsbD 0 = true then s.y + 1 else s.y) ∧
    ∀ j, (revwElement s).ccr.getLsbD j =
      if j = 1 then (if s.readWord s.x = 0xFFFE then !s.ccr.getLsbD 1 else s.ccr.getLsbD 1) else s.ccr.getLsbD j := by
  have hkeep (j : Nat) : s.ccr.getLsbD j = if j = 1 then s.ccr.getLsbD 1 else s.ccr.getLsbD j := by
    split
    · next h => rw [h]
    · rfl
  by_cases hlast : s.readWord s.x = 0xFFFF
  · have hsep : s.readWord s.x ≠ 0xFFFE := by
      rw [hlast]
      decide
    rw [revwElement_last hlast, if_neg hsep, if_neg fun h => hsep h.1]
    exact ⟨rfl, rfl, hkeep⟩
  by_cases hsep : s.readWord s.x = 0xFFFE
  · rw [if_pos hsep]
    cases hv : s.ccr.getLsbD 1 with
    | true =>
      rw [revwElement_begin hsep hv, if_neg fun h => Bool.noConfusion h.2.1]
      exact ⟨rfl, rfl, fun j => putFlag_getLsbD 1 j _ s.ccr (by decide)⟩
    | false =>
      rw [revwElement_turn hsep hv]
      refine ⟨?_, ?_, fun j => putFlag_getLsbD 1 j _ s.ccr (by decide)⟩
      · split <;> rfl
      · cases hc : s.ccr.getLsbD 0 with
        | true => exact (if_pos ⟨hsep, rfl, rfl⟩).symm
        | false => exact (if_neg fun h => Bool.false_ne_true h.2.2).symm
  rw [if_neg hsep, if_neg fun h => hsep h.1]
  cases hv : s.ccr.getLsbD 1 with
  | true =>
    obtain ⟨-, hx, hy, hccr⟩ := raiseOutput_registers (s.setX (s.x + 2)) (s.readWord s.x)
    rw [revwElement_consequent hlast hsep hv, hx, hy, hccr]
    exact ⟨rfl, rfl, hv ▸ hkeep⟩
  | false =>
    rw [revwElement_antecedent hlast hsep hv]
    exact ⟨rfl, rfl, hv ▸ hkeep⟩

/-- Only a consequent stores, and only to an output that is below A. -/
theorem revwElement_stores (hm : MemoryForm s) :
    if ¬ s.readWord s.x = 0xFFFF ∧ ¬ s.readWord s.x = 0xFFFE ∧ s.ccr.getLsbD 1 = true ∧
        (s.readByte (s.readWord s.x)).toNat < s.a.toNat
      then StoresByte [.x] s (revwElement s) (s.readWord s.x) s.a
      else Keeps [.a, .x, .y, .ccr] s (revwElement s) := by
  by_cases hlast : s.readWord s.x = 0xFFFF
  · rw [if_neg fun h => h.1 hlast, revwElement_last hlast]
    exact keeps_mono (writer_x.keeps s _) (by decide)
  by_cases hsep : s.readWord s.x = 0xFFFE
  · rw [if_neg fun h => h.2.1 hsep]
    cases hv : s.ccr.getLsbD 1 with
    | true =>
      rw [revwElement_begin hsep hv]
      exact keeps_mono (keeps_trans (writer_a.keeps_after (writer_x.keeps s _) _) (setCcr_keeps _ _)) (by decide)
    | false =>
      rw [revwElement_turn hsep hv]
      split
      · exact keeps_mono (keeps_trans (writer_y.keeps_after (writer_a.keeps_after (writer_x.keeps s _) _) _)
          (setCcr_keeps _ _)) (by decide)
      · exact keeps_mono (keeps_trans (writer_x.keeps s _) (setCcr_keeps _ _)) (by decide)
  cases hv : s.ccr.getLsbD 1 with
  | true =>
    have hraise := raiseOutput_stores hm (s.x + 2) (s.readWord s.x)
    rw [← revwElement_consequent hlast hsep hv] at hraise
    by_cases h : (s.readByte (s.readWord s.x)).toNat < s.a.toNat
    · rw [if_pos h] at hraise
      rw [if_pos ⟨hlast, hsep, rfl, h⟩]
      exact hraise
    · rw [if_neg h] at hraise
      rw [if_neg fun hc => h hc.2.2.2]
      exact keeps_mono hraise (by decide)
  | false =>
    rw [if_neg fun h => Bool.false_ne_true h.2.2.1, revwElement_antecedent hlast hsep hv]
    exact keeps_mono (writer_a.keeps_after (writer_x.keeps s _) _) (by decide)

theorem revw_eq (s : State) : exec .revw s = .next (elementEnd (revwElement s) 0x2C
    (if s.readWord s.x = 0xFFFF then .running else .inRevw) (if s.readWord s.x = 0xFFFF then s.pc else s.pc - 2)) := by
  by_cases h : s.readWord s.x = 0xFFFF
  · rw [if_pos h, if_pos h]
    refine (if_pos h).trans ?_
    rw [revwElement_last h]
    rfl
  · rw [if_neg h, if_neg h]
    exact if_neg h

end Revw

/-- A after an element of REVW, kind by kind. -/
theorem revwElement_a (s : State) :
    let r := s.readWord s.x
    let v := s.ccr.getLsbD 1
    let c := s.ccr.getLsbD 0
    (r = 0xFFFF → (revwElement s).a = s.a) ∧ (r = 0xFFFE → v = true → (revwElement s).a = 0xFF) ∧
    (r = 0xFFFE → v = false → c = false → (revwElement s).a = s.a) ∧
    (r = 0xFFFE → v = false → c = true →
      (revwElement s).a.toNat = s.a.toNat * ((s.readByte s.y).toNat + 1) / 256) ∧
    (r ≠ 0xFFFF → r ≠ 0xFFFE → v = false → (revwElement s).a.toNat = min s.a.toNat (s.readByte r).toNat) ∧
    (r ≠ 0xFFFF → r ≠ 0xFFFE → v = true → (revwElement s).a = s.a) := by
  refine ⟨fun hlast => ?_, fun hsep hv => ?_, fun hsep hv hc => ?_, fun hsep hv hc => ?_, fun hlast hsep hv => ?_,
    fun hlast hsep hv => ?_⟩
  · rw [revwElement_last hlast]
    rfl
  · rw [revwElement_begin hsep hv]
    rfl
  · rw [revwElement_turn hsep hv, if_neg (Bool.eq_false_iff.mp hc)]
    rfl
  · rw [revwElement_turn hsep hv, if_pos hc]
    exact toNat_weightTruth _ _
  · rw [revwElement_antecedent hlast hsep hv]
    exact toNat_minByte _ _
  · rw [revwElement_consequent hlast hsep hv]
    exact (raiseOutput_registers _ _).1

/-- REVW's own effect on the element (`revwElement`), under the codes, run state and PC of `elementEnd`. -/
theorem revw_does (s : State) (hm : MemoryForm s) : Completes .revw s fun t =>
    let r := s.readWord s.x
    let v := s.ccr.getLsbD 1
    let c := s.ccr.getLsbD 0
    let separator := r = 0xFFFE
    let last := r = 0xFFFF
    t.x = s.x + 2 ∧ t.run = (if last then .running else .inRevw) ∧ t.pc = (if last then s.pc else s.pc - 2) ∧
    t.ccr.getLsbD 1 = (if separator then !v else v) ∧ SameCcrOutside 0x2E s.ccr t.ccr ∧
    t.y = (if separator ∧ v = false ∧ c = true then s.y + 1 else s.y) ∧
    (last → t.a = s.a) ∧ (separator → v = true → t.a = 0xFF) ∧ (separator → v = false → c = false → t.a = s.a) ∧
    (separator → v = false → c = true → t.a.toNat = s.a.toNat * ((s.readByte s.y).toNat + 1) / 256) ∧
    (¬ last → ¬ separator → v = false → t.a.toNat = min s.a.toNat (s.readByte r).toNat) ∧
    (¬ last → ¬ separator → v = true → t.a = s.a) ∧
    (if ¬ last ∧ ¬ separator ∧ v = true ∧ (s.readByte r).toNat < s.a.toNat
      then StoresByte [.x, .ccr, .free, .run, .pc] s t r s.a
      else Keeps [.a, .x, .y, .ccr, .free, .run, .pc] s t) := by
  have hregisters := revwElement_registers s
  have ha := revwElement_a s
  have hstores := revwElement_stores hm
  refine ⟨_, revw_eq s, ?_⟩
  generalize revwElement s = e at hregisters ha hstores ⊢
  obtain ⟨hx, hy, hccr⟩ := hregisters
  obtain ⟨hlast, hbegin, hturn, hweigh, hante, hcons⟩ := ha
  obtain ⟨hv, hcodes⟩ := elementEnd_ccr (if s.readWord s.x = 0xFFFF then .running else .inRevw)
    (if s.readWord s.x = 0xFFFF then s.pc else s.pc - 2) hccr (show (0x2C#8).getLsbD 1 = false by decide)
  exact ⟨hx, rfl, rfl, hv, hcodes, hy, hlast, hbegin, hturn, hweigh, hante, hcons, elementEnd_stores hstores (by decide)⟩

/-- Settles O55: `revw_does` is one element, `step_nextElement` the step to the next. -/
theorem weightedRuleEvaluation : Obligations.WeightedRuleEvaluation :=
  ⟨revw_does, fun _ hrun hn hp =>
    (step_nextElement (.inr hrun) hn hp).trans (if_neg (by rw [hrun]; decide))⟩

end Sys2Proof.Machine
end

section
/-! Every step is safe, and what reset leaves (60_exceptions.md R843, R870; 70_reset_and_hazards.md R900). Settles O9 and O11. -/

namespace Sys2Proof.Machine

open Sys2Proof Sys2Proof.Safety

/-- An outcome as `SafeStep` asks of a step's: a next state, or one of the two refusals (92 D4, D5, D14). -/
def SafeAnswer (o : Host.Outcome State Fault Refusal) : Prop :=
  (∃ t, o = .next t) ∨ (∃ e, o = .refused (.outsideEncoding e)) ∨ o = .refused .staleFetch

theorem safeAnswer_next (t : State) : SafeAnswer (.next t) := .inl ⟨t, rfl⟩

theorem safeAnswer_ite {c : Prop} [Decidable c] {o p : Host.Outcome State Fault Refusal} (ho : SafeAnswer o)
    (hp : SafeAnswer p) : SafeAnswer (if c then o else p) := by
  split
  · exact ho
  · exact hp

/-- An instruction with an encoding completes. -/
theorem exec_safe {i : Instr} (h : i.wf = true) (s : State) : SafeAnswer (exec i s) :=
  .inl ((exec_answersExactly i s).1 h)

/-- A fetched instruction has an encoding. -/
theorem wf_of_fetch {s : State} {i : Instr} {length : Nat} (h : s.fetch = .ok (i, length)) : i.wf = true := by
  unfold State.fetch at h
  split at h
  case h_1 => cases h
  case h_2 i' rest hd =>
    split at h
    · cases h
    · cases h
      exact (decode_reads.answers hd).1.wf

/-- Fetching fails for the bytes or for a store to them (92 D4, D5, D14). -/
theorem fetch_error {s : State} {r : Refusal} (h : s.fetch = .error r) : (∃ e, r = .outsideEncoding e) ∨ r = .staleFetch := by
  unfold State.fetch at h
  split at h
  case h_1 e _ =>
    cases h
    exact .inl ⟨e, rfl⟩
  case h_2 =>
    split at h
    · cases h
      exact .inr rfl
    · cases h

theorem runInstruction_safe (s : State) : SafeAnswer (runInstruction s) := by
  unfold runInstruction
  cases h : s.fetch with
  | ok found => exact exec_safe (wf_of_fetch h) _
  | error r =>
    rcases fetch_error h with ⟨e, rfl⟩ | rfl
    · exact .inr (.inl ⟨e, rfl⟩)
    · exact .inr (.inr rfl)

/-- Only a fetched instruction can be refused. -/
theorem stepWith_safe (p : Sample) (s : State) : SafeAnswer (stepWith p s) := by
  unfold stepWith
  cases p.reset with
  | some k => exact safeAnswer_next _
  | none =>
    cases s.run with
    | inReset k => exact safeAnswer_next _
    | waiting | stopped => exact safeAnswer_next _
    | background => exact safeAnswer_next _
    | running =>
      cases s.recognised p s.iDelay with
      | some e => exact safeAnswer_next _
      | none => exact safeAnswer_ite (safeAnswer_next _) (runInstruction_safe s)
    | inRev =>
      cases s.recognised p false with
      | some e => exact safeAnswer_next _
      | none => exact exec_safe (i := .rev) rfl _
    | inRevw =>
      cases s.recognised p false with
      | some e => exact safeAnswer_next _
      | none => exact exec_safe (i := .revw) rfl _
    | inWav =>
      cases s.recognised p false with
      | some e => exact safeAnswer_next _
      | none => exact safeAnswer_next _

/-- Settles O9: an illegal access ends in a reset (60_exceptions.md R851), any other step is that of its sample. -/
theorem everyStepIsSafe : Obligations.EveryStepIsSafe := fun s => by
  by_cases hp : Permitted s
  · rw [SafeStep, step_permitted s hp]
    exact stepWith_safe _ _
  · obtain ⟨t, ht, -⟩ := step_illegal s hp
    exact .inl ⟨t, ht⟩

/-- Settles O11: the reset state is a literal, its memory empty. -/
theorem resetValues : Obligations.ResetValues := by
  unfold Obligations.ResetValues
  exact ⟨rfl, rfl, rfl, rfl, rfl, rfl, rfl, rfl, rfl⟩

end Sys2Proof.Machine
end

section
/-! Resets (70_reset_and_hazards.md R900 to R903, 60_exceptions.md R850, R851): a reset is held while it is asked for, ends at
its vector, and nothing but the environment or an illegal access begins one. Settles O60. -/

namespace Sys2Proof.Machine

open Sys2Proof Sys2Proof.Safety

/-! ### What keeps the run state

Most instructions leave the run state as it is; the others name the state they leave, and none of them names a reset. -/

section Registers

variable {get8 : State → Byte} {get16 : State → Word} {set8 : State → Byte → State} {set16 : State → Word → State}

theorem load8_run (src : Src8) (s : State) (hset : ∀ s v, (set8 s v).run = s.run := by exact fun _ _ => rfl) :
    (load8 set8 src s).run = s.run := (hset _ _).trans (Src8Update_run src s)

theorem load16_run (src : Src16) (s : State) (hset : ∀ s v, (set16 s v).run = s.run := by exact fun _ _ => rfl) :
    (load16 set16 src s).run = s.run := (hset _ _).trans (Src16Update_run src s)

theorem globalLoad8_run (ea : Ea) (s : State) (hset : ∀ s v, (set8 s v).run = s.run := by exact fun _ _ => rfl) :
    (globalLoad8 set8 ea s).run = s.run := (hset _ _).trans (EaUpdate_run ea s)

theorem globalLoad16_run (ea : Ea) (s : State) (hset : ∀ s v, (set16 s v).run = s.run := by exact fun _ _ => rfl) :
    (globalLoad16 set16 ea s).run = s.run := (hset _ _).trans (EaUpdate_run ea s)

theorem binary8_run (op : Byte → Byte → Byte → Byte × Byte) (src : Src8) (s : State)
    (hset : ∀ s v, (set8 s v).run = s.run := by exact fun _ _ => rfl) :
    (binary8 get8 set8 op src s).run = s.run := (hset _ _).trans (Src8Update_run src s)

theorem binary16_run (op : Word → Word → Byte → Word × Byte) (src : Src16) (s : State)
    (hset : ∀ s v, (set16 s v).run = s.run := by exact fun _ _ => rfl) :
    (binary16 get16 set16 op src s).run = s.run := (hset _ _).trans (Src16Update_run src s)

end Registers

section Stores

variable (s : State)

theorem store8_run (get : State → Byte) (ea : Ea) : (store8 get ea s).run = s.run :=
  (State.writeByte_run _ _ _).trans (EaUpdate_run ea s)

theorem store16_run (get : State → Word) (ea : Ea) : (store16 get ea s).run = s.run :=
  (State.writeWord_run _ _ _).trans (EaUpdate_run ea s)

theorem globalStore8_run (get : State → Byte) (ea : Ea) : (globalStore8 get ea s).run = s.run :=
  (State.globalWriteByte_run _ _ _).trans (EaUpdate_run ea s)

theorem globalStore16_run (get : State → Word) (ea : Ea) : (globalStore16 get ea s).run = s.run :=
  (State.globalWriteWord_run _ _ _).trans (EaUpdate_run ea s)

theorem modify8_run (op : Byte → Byte → Byte × Byte) (ea : Xea) : (modify8 op ea s).run = s.run :=
  (State.writeByte_run _ _ _).trans (XeaUpdate_run ea s)

theorem modify16_run (op : Word → Byte → Word × Byte) (ea : Xea) : (modify16 op ea s).run = s.run :=
  (State.writeWord_run _ _ _).trans (XeaUpdate_run ea s)

theorem selectMemory8_run (choose : Byte → Byte → Byte) (idx : Idx) : (selectMemory8 choose idx s).run = s.run :=
  (State.writeByte_run _ _ _).trans (IdxUpdate_run idx s)

theorem selectMemory16_run (choose : Word → Word → Word) (idx : Idx) : (selectMemory16 choose idx s).run = s.run :=
  (State.writeWord_run _ _ _).trans (IdxUpdate_run idx s)

theorem callTo_run (addr : Word) (page : Byte) : (callTo addr page s).run = s.run :=
  (State.pushByte_run _ _).trans (State.pushWord_run s s.pc)

end Stores

theorem branchIf_run (s : State) (taken : Bool) (target : Word) : (s.branchIf taken target).run = s.run := by
  cases taken with
  | true => rfl
  | false => rfl

theorem addCounter_run (s : State) (c : Ctr) (delta : Int) : (s.addCounter c delta).run = s.run := by cases c <;> rfl

theorem loopOn_run (delta : Int) (whenZero : Bool) (ctr : Ctr) (rel : BitVec 9) (s : State) :
    (loopOn delta whenZero ctr rel s).run = s.run := (branchIf_run _ _ _).trans (addCounter_run s ctr delta)

@[simp] theorem byteLocWrite_run (l : ByteLoc) (s : State) (v : Byte) : (l.write s v).run = s.run := by cases l <;> rfl
@[simp] theorem wordLocWrite_run (l : WordLoc) (s : State) (v : Word) : (l.write s v).run = s.run := by cases l <;> rfl
@[simp] theorem byteLocTouch_run (l : ByteLoc) (s : State) : (l.touch s).run = s.run := by cases l <;> rfl
@[simp] theorem wordLocTouch_run (l : WordLoc) (s : State) : (l.touch s).run = s.run := by cases l <;> rfl

theorem transfer_keepsRun (c : Transfer) (s : State) : (c.run s).run = s.run := by cases c <;> simp [Transfer.run]

theorem exchange_keepsRun (c : Exchange) (s : State) : (c.run s).run = s.run := by cases c <;> simp [Exchange.run]

theorem sexWrite_run (dst : SexDst) (s : State) (v : Word) : (sexWrite dst s v).run = s.run := by cases dst <;> rfl

/-! ### Instructions begin no reset -/

/-- The state is in no reset. -/
def Awake (s : State) : Prop := ∀ k, s.run ≠ .inReset k

/-- A next state is in no reset. -/
def AnswersAwake (o : Host.Outcome State Fault Refusal) : Prop := ∀ t, o = .next t → Awake t

theorem awake_of_run {t : State} {r : RunState} (h : t.run = r) (hr : ∀ k, r ≠ .inReset k) : Awake t := fun k hk =>
  hr k (h ▸ hk)

theorem answersAwake_next {t : State} (h : Awake t) : AnswersAwake (.next t) := by
  intro u hu
  cases hu
  exact h

theorem answersAwake_refused (r : Refusal) : AnswersAwake (.refused r) := by
  intro u hu
  injection hu

theorem answersAwake_ite {c : Prop} [Decidable c] {o p : Host.Outcome State Fault Refusal} (ho : AnswersAwake o)
    (hp : AnswersAwake p) : AnswersAwake (if c then o else p) := by
  split
  · exact ho
  · exact hp

/-- An operation that keeps the run state. -/
theorem answersAwake_of_run {s t : State} (hs : Awake s) (h : t.run = s.run) : AnswersAwake (.next t) :=
  answersAwake_next (awake_of_run h hs)

/-- The handler runs (60_exceptions.md R811 step 8). -/
theorem enter_awake (s : State) (offset : Byte) (rtn : Word) (m : Masking) : Awake (s.enter offset rtn m) :=
  awake_of_run (r := .running) rfl nofun

theorem wavPassEnd_awake (s : State) (resume : Word) : Awake (s.wavPassEnd resume) := by
  unfold State.wavPassEnd
  split
  · exact awake_of_run (r := .running) rfl nofun
  · exact awake_of_run (r := .inWav) rfl nofun

section Instructions

variable {s : State}

theorem execRev_awake : AnswersAwake (exec .rev s) := by
  rw [rev_eq]
  by_cases h : s.readByte s.x = 0xFF
  · exact answersAwake_next (awake_of_run (r := .running) (if_pos h) nofun)
  · exact answersAwake_next (awake_of_run (r := .inRev) (if_neg h) nofun)

theorem execRevw_awake : AnswersAwake (exec .revw s) := by
  rw [revw_eq]
  by_cases h : s.readWord s.x = 0xFFFF
  · exact answersAwake_next (awake_of_run (r := .running) (if_pos h) nofun)
  · exact answersAwake_next (awake_of_run (r := .inRevw) (if_neg h) nofun)

variable (hs : Awake s)

include hs

theorem loadAddress_awake {set : State → Word → State} (hset : ∀ s v, (set s v).run = s.run) (idx : Idx) :
    AnswersAwake (loadAddress set idx s) :=
  answersAwake_ite (answersAwake_of_run hs ((hset _ _).trans (IdxUpdate_run idx s))) (answersAwake_refused _)

theorem modifyBits_awake (f test : Byte → Byte) (ea : Ea) : AnswersAwake (modifyBits f test ea s) :=
  answersAwake_ite (answersAwake_of_run hs ((State.writeByte_run _ _ _).trans (EaUpdate_run ea s)))
    (answersAwake_refused _)

theorem execBclr_awake (ea : Ea) (mask : Byte) : AnswersAwake (execBclr ea mask s) := modifyBits_awake hs _ _ ea

theorem execBset_awake (ea : Ea) (mask : Byte) : AnswersAwake (execBset ea mask s) := modifyBits_awake hs _ _ ea

theorem execBtas_awake (ea : Ea) (mask : Byte) : AnswersAwake (execBtas ea mask s) := modifyBits_awake hs _ _ ea

theorem branchOnBits_awake (test : Byte → Bool) (ea : Ea) (rel : Byte) : AnswersAwake (branchOnBits test ea rel s) :=
  answersAwake_ite (answersAwake_of_run hs ((branchIf_run _ _ _).trans (EaUpdate_run ea s))) (answersAwake_refused _)

theorem execBrclr_awake (ea : Ea) (mask rel : Byte) : AnswersAwake (execBrclr ea mask rel s) :=
  branchOnBits_awake hs _ ea rel

theorem execBrset_awake (ea : Ea) (mask rel : Byte) : AnswersAwake (execBrset ea mask rel s) :=
  branchOnBits_awake hs _ ea rel

theorem execCall_awake (target : CallTarget) : AnswersAwake (execCall target s) := by
  cases target with
  | ext addr page => exact answersAwake_of_run hs (callTo_run s addr page)
  | idx i page =>
    exact answersAwake_ite (answersAwake_of_run hs ((callTo_run _ _ page).trans (IdxUpdate_run i s)))
      (answersAwake_refused _)
  | ind i => exact answersAwake_ite (answersAwake_refused _) (answersAwake_of_run hs (callTo_run s _ _))

theorem execSex_awake (op : SexOp) : AnswersAwake (execSex op s) := by
  cases op with
  | byte src dst => exact answersAwake_of_run hs (sexWrite_run dst s _)
  | _ => exact answersAwake_of_run hs rfl

/-- BGND enters background mode or goes on (48_stack_ccr_system.md R784). -/
theorem execBgnd_awake : AnswersAwake (exec .bgnd s) := by
  rw [bgnd_eq]
  split
  · exact answersAwake_next (awake_of_run (r := .background) rfl nofun)
  · exact answersAwake_of_run hs rfl

theorem execStop_awake : AnswersAwake (execStop s) :=
  answersAwake_ite (answersAwake_of_run hs rfl) (answersAwake_next (awake_of_run (r := .stopped) rfl nofun))

/-- The instructions named here store, have a memory operand, distinguish cases or set the run state; every other one works
on registers. -/
theorem exec_awake (i : Instr) : AnswersAwake (exec i s) := by
  cases i with
  | staa ea | stab ea => exact answersAwake_of_run hs (store8_run s _ ea)
  | std ea | sts ea | stx ea | sty ea => exact answersAwake_of_run hs (store16_run s _ ea)
  | gstaa ea | gstab ea => exact answersAwake_of_run hs (globalStore8_run s _ ea)
  | gstd ea | gsts ea | gstx ea | gsty ea => exact answersAwake_of_run hs (globalStore16_run s _ ea)
  | movb src dst =>
    exact answersAwake_of_run hs
      ((State.writeByte_run _ _ _).trans ((XeaUpdate_run dst _).trans (MoveSrc8Update_run src s)))
  | movw src dst =>
    exact answersAwake_of_run hs
      ((State.writeWord_run _ _ _).trans ((XeaUpdate_run dst _).trans (MoveSrc16Update_run src s)))
  | bclr ea mask => exact execBclr_awake hs ea mask
  | bset ea mask => exact execBset_awake hs ea mask
  | btas ea mask => exact execBtas_awake hs ea mask
  | clr ea => exact answersAwake_of_run hs ((State.writeByte_run _ _ _).trans (XeaUpdate_run ea s))
  | clrw ea => exact answersAwake_of_run hs ((State.writeWord_run _ _ _).trans (XeaUpdate_run ea s))
  | com ea | neg ea | dec ea | inc ea | asl ea | lsl ea | asr ea | lsr ea | rol ea | ror ea =>
    exact answersAwake_of_run hs (modify8_run s _ ea)
  | comw ea | negw ea | decw ea | incw ea | aslw ea | lslw ea | asrw ea | lsrw ea | rolw ea | rorw ea =>
    exact answersAwake_of_run hs (modify16_run s _ ea)
  | emacs addr => exact answersAwake_of_run hs ((State.writeWord_run _ _ _).trans (State.writeWord_run s _ _))
  | maxm idx | minm idx => exact answersAwake_of_run hs (selectMemory8_run s _ idx)
  | emaxm idx | eminm idx => exact answersAwake_of_run hs (selectMemory16_run s _ idx)
  | jsr target => exact answersAwake_of_run hs ((State.pushWord_run _ _).trans (EaUpdate_run target s))
  | bsr rel => exact answersAwake_of_run hs (State.pushWord_run s _)
  | call target => exact execCall_awake hs target
  | psha | pshb | pshc => exact answersAwake_of_run hs (State.pushByte_run s _)
  | pshcw | pshd | pshx | pshy => exact answersAwake_of_run hs (State.pushWord_run s _)
  | swi => exact answersAwake_next (enter_awake s _ _ _)
  | trap tn => exact answersAwake_ite (answersAwake_next (enter_awake s _ _ _)) (answersAwake_refused _)
  | bgnd => exact execBgnd_awake hs
  | stop => exact execStop_awake hs
  | wai => exact answersAwake_next (awake_of_run (r := .waiting) rfl nofun)
  | mem => exact answersAwake_of_run hs (State.writeByte_run s _ _)
  | rev => exact execRev_awake
  | revw => exact execRevw_awake
  | wav => exact answersAwake_next (awake_of_run (r := .inWav) rfl nofun)
  | wavr => exact answersAwake_next (wavPassEnd_awake _ _)
  | ldaa src | ldab src => exact answersAwake_of_run hs (load8_run src s)
  | ldd src | lds src | ldx src | ldy src => exact answersAwake_of_run hs (load16_run src s)
  | gldaa ea | gldab ea => exact answersAwake_of_run hs (globalLoad8_run ea s)
  | gldd ea | glds ea | gldx ea | gldy ea => exact answersAwake_of_run hs (globalLoad16_run ea s)
  | leas idx => exact loadAddress_awake hs State.setSp_run idx
  | leax idx => exact loadAddress_awake hs State.setX_run idx
  | leay idx => exact loadAddress_awake hs State.setY_run idx
  | adca src | adcb src | adda src | addb src | sbca src | sbcb src | suba src | subb src | anda src | andb src | eora src
  | eorb src | oraa src | orab src => exact answersAwake_of_run hs (binary8_run _ src s)
  | addd src | addx src | addy src | aded src | adex src | adey src | subd src | subx src | suby src | sbed src | sbex src
  | sbey src | andx src | andy src | eorx src | eory src | orx src | ory src =>
    exact answersAwake_of_run hs (binary16_run _ src s)
  | cmpa src | cmpb src | bita src | bitb src => exact answersAwake_of_run hs (Src8Update_run src s)
  | cpd src | cps src | cpx src | cpy src | cped src | cpes src | cpex src | cpey src | bitx src | bity src =>
    exact answersAwake_of_run hs (Src16Update_run src s)
  | tst ea | tstw ea => exact answersAwake_of_run hs (XeaUpdate_run ea s)
  | maxa idx | mina idx | emaxd idx | emind idx => exact answersAwake_of_run hs (IdxUpdate_run idx s)
  | tbl idx | etbl idx => exact answersAwake_ite (answersAwake_of_run hs (IdxUpdate_run idx s)) (answersAwake_refused _)
  | ediv | edivs | idivs =>
    exact answersAwake_ite (answersAwake_of_run hs rfl) <| answersAwake_ite (answersAwake_of_run hs rfl) <|
      answersAwake_of_run hs rfl
  | idiv | fdiv => exact answersAwake_ite (answersAwake_of_run hs rfl) (answersAwake_of_run hs rfl)
  | bcc | bcs | beq | bge | bgt | bhi | bhs | ble | blo | bls | blt | bmi | bne | bpl | bra | brn | bvc | bvs | lbcc
  | lbcs | lbeq | lbge | lbgt | lbhi | lbhs | lble | lblo | lbls | lblt | lbmi | lbne | lbpl | lbra | lbrn | lbvc
  | lbvs => exact answersAwake_of_run hs (branchIf_run ..)
  | brclr ea mask rel => exact execBrclr_awake hs ea mask rel
  | brset ea mask rel => exact execBrset_awake hs ea mask rel
  | dbeq ctr rel | dbne ctr rel | ibeq ctr rel | ibne ctr rel | tbeq ctr rel | tbne ctr rel =>
    exact answersAwake_of_run hs (loopOn_run _ _ ctr rel s)
  | jmp target => exact answersAwake_of_run hs (XeaUpdate_run target s)
  | tfr extended src dst => exact answersAwake_of_run hs (transfer_keepsRun _ s)
  | exg extended src dst => exact answersAwake_of_run hs (exchange_keepsRun _ s)
  | sex op => exact execSex_awake hs op
  | _ => exact answersAwake_of_run hs rfl

end Instructions

/-! ### Steps -/

theorem runInstruction_awake {s : State} (hs : Awake s) : AnswersAwake (runInstruction s) := by
  unfold runInstruction
  cases s.fetch with
  | ok found => exact exec_awake (s := s.begin found.2) hs found.1
  | error r => exact answersAwake_refused r

theorem waitMoment_awake {s : State} (hs : Awake s) (p : Sample) : Awake (s.waitMoment p) := by
  unfold State.waitMoment
  cases s.recognised p false with
  | some e => exact awake_of_run (r := .running) rfl nofun
  | none =>
    show Awake (if p.xirq then (s.drop 10).setRun .running else s)
    split
    · exact awake_of_run (r := .running) rfl nofun
    · exact hs

theorem backgroundMoment_awake {s : State} (hs : Awake s) (p : Sample) : Awake (s.backgroundMoment p) := by
  unfold State.backgroundMoment
  split
  · exact awake_of_run (r := .running) rfl nofun
  · exact hs

/-- Without a reset of the environment no branch of a step leaves a state in reset; the one of a held reset ends it. -/
theorem stepWith_awake {p : Sample} (s : State) (hp : p.reset = none) : AnswersAwake (stepWith p s) := by
  cases hrun : s.run with
  | inReset k =>
    simp only [stepWith, hp, hrun]
    exact answersAwake_next (awake_of_run (r := .running) rfl nofun)
  | waiting | stopped =>
    simp only [stepWith, hp, hrun]
    exact answersAwake_next (waitMoment_awake (awake_of_run hrun nofun) p)
  | background =>
    simp only [stepWith, hp, hrun]
    exact answersAwake_next (backgroundMoment_awake (awake_of_run hrun nofun) p)
  | running =>
    simp only [stepWith, hp, hrun]
    cases s.recognised p s.iDelay with
    | some e => exact answersAwake_next (enter_awake s _ _ _)
    | none =>
      exact answersAwake_ite (answersAwake_next (enter_awake s _ _ _)) (runInstruction_awake (awake_of_run hrun nofun))
  | inRev =>
    simp only [stepWith, hp, hrun]
    cases s.recognised p false with
    | some e => exact answersAwake_next (enter_awake s _ _ _)
    | none => exact execRev_awake (s := { s with pc := s.pc + 2 })
  | inRevw =>
    simp only [stepWith, hp, hrun]
    cases s.recognised p false with
    | some e => exact answersAwake_next (enter_awake s _ _ _)
    | none => exact execRevw_awake (s := { s with pc := s.pc + 2 })
  | inWav =>
    simp only [stepWith, hp, hrun]
    cases s.recognised p false with
    | some e => exact answersAwake_next (enter_awake (wavSuspend s) _ _ _)
    | none => exact answersAwake_next (wavPassEnd_awake _ _)

/-- A step with a reset of the environment holds it: nothing runs and nothing is accessed (70_reset_and_hazards.md R901). -/
theorem step_held {s : State} {k : ResetKind} (h : (nextInput s).reset = some k) :
    step s = .next (s.nextSample.holdInReset k) := by
  rw [step_noAccess (by simp only [stepAccesses, h])]
  simp only [stepWith, h]

/-- The step after the last moment of a reset ends it (70_reset_and_hazards.md R901 steps 2 to 4). -/
theorem step_released {s : State} {k : ResetKind} (hrun : s.run = .inReset k) (h : (nextInput s).reset = none)
    (hp : Permitted s) : step s = .next (s.nextSample.resetBy k) := by
  have hrun' : s.nextSample.run = .inReset k := hrun
  rw [step_permitted s hp]
  simp only [stepWith, h, hrun']

theorem resetBy_ccr (s : State) (k : ResetKind) : (s.resetBy k).ccr.getLsbD 7 = true ∧
    (s.resetBy k).ccr.getLsbD 6 = true ∧ (s.resetBy k).ccr.getLsbD 4 = true := by
  have hccr (j : Nat) (hj : (0xD0#8).getLsbD j = true) : (s.resetBy k).ccr.getLsbD j = true := by
    show (0xD0#8 ||| (Config.freeByte (s.free + 2) &&& 0x2F#8)).getLsbD j = true
    rw [BitVec.getLsbD_or, hj, Bool.true_or]
  exact ⟨hccr 7 rfl, hccr 6 rfl, hccr 4 rfl⟩

/-- A state in reset follows a reset of the environment or an illegal access (60_exceptions.md R850, R851). -/
theorem reset_begun {s t : State} {k : ResetKind} (h : step s = .next t) (hk : t.run = .inReset k) :
    (nextInput s).reset = some k ∨ (k = .system ∧ ¬ Permitted s) := by
  by_cases hp : Permitted s
  · cases hreset : (nextInput s).reset with
    | some k' =>
      have ht := (step_held hreset).symm.trans h
      cases ht
      cases hk
      exact .inl rfl
    | none => exact absurd hk (stepWith_awake s.nextSample hreset t ((step_permitted s hp).symm.trans h) k)
  · obtain ⟨u, hu, hrun⟩ := step_illegal s hp
    cases hu.symm.trans h
    exact .inr ⟨RunState.inReset.inj (hk.symm.trans hrun), hp⟩

/-- Settles O60: the held step, the released step, the illegal access, and what begins a reset, each by its lemma. -/
theorem resetSequence : Obligations.ResetSequence := by
  refine ⟨fun s k h => ?_, fun s k hrun h hp => ?_, step_illegal, fun s t k => reset_begun⟩
  · obtain ⟨hheld, hsame⟩ := holdInReset_same s.nextSample k
    exact ⟨_, step_held h, hheld, hsame, holdInReset_memory s.nextSample k⟩
  · obtain ⟨hS, hX, hI⟩ := resetBy_ccr s.nextSample k
    refine ⟨_, step_released hrun h hp, congrArg s.nextSample.readWord ?_, hS, hX, hI, rfl, rfl, rfl, rfl, rfl, rfl,
      fun _ _ => rfl, rfl⟩
    cases k <;> rfl

end Sys2Proof.Machine
end
